-- ==== Sys2Proof/Word.lean ====
section
/-! DEFINITION. The two word types of the block (00_scope.md R7): a Byte is an unsigned 8-bit value,
a Word (an Addr16) an unsigned 16-bit value.  `+` and `-` on them wrap, which is the spec's
`+8 -8 +16 -16`. -/

namespace Sys2Proof

abbrev Byte := BitVec 8

abbrev Word := BitVec 16

end Sys2Proof
end

