-- ==== Sys2Proof/Machine/Bits.lean ====
section
/-! DEFINITION. Bit-field, extension and byte-order helpers (00_scope.md R7). -/

namespace Sys2Proof.Machine

/-- `zext_16`: widen a byte with zeros. -/
def zext16 (b : Byte) : Word := b.zeroExtend 16

/-- `sext_16`: widen a byte by copying bit 7 into bits 15..8. -/
def sext16 (b : Byte) : Word := b.signExtend 16

/-- `lo(w) = w[7:0]`. -/
def lo (w : Word) : Byte := w.extractLsb' 0 8

/-- `hi(w) = w[15:8]`. -/
def hi (w : Word) : Byte := w.extractLsb' 8 8

/-- `word(l, h) = zext_16(l) | (zext_16(h) << 8)`: the word with low byte `l` and high byte `h`. -/
def word (l h : Byte) : Word := zext16 l ||| (zext16 h <<< 8)

end Sys2Proof.Machine
end

