-- ==== Sys2Proof/Config.lean ====
section
/-! DEFINITION. The parameters of the block (00_scope.md R6).  No value is left free: the spec leaves
no result, flag or register undefined (93_implementation_defined.md), and its one open parameter,
the memory contents at creation, is an argument of `Machine.createState`. -/

namespace Sys2Proof.Config

/-- R6, R40: 65536 bytes, every 16-bit address valid. -/
def memorySize : Nat := 65536

/-- What an address that the memory list does not hold reads as.  DESIGN CHOICE (assumption log 1):
the list form can hold any 65536-byte memory, so only a claim about `State.reset`'s own memory
depends on it; that dependence is unsafe. -/
def unlistedByte : Byte := 0x00

/-- R6, R39, R240: SP after reset. -/
def resetSP : Byte := 0xFF

/-- R6, R39, R240: PC after reset. -/
def resetPC : Word := 0x0000

end Sys2Proof.Config
end

