-- ==== Sys2Proof/Machine/State.lean ====
section
/-! DEFINITION. The state aggregate (10_state.md R20), its reset value (R39, R240), and the reasons a
step can stop. -/

namespace Sys2Proof.Machine

/-- The eight status flags (R20, R32).  Each is a stored bit; the status byte is computed from them by
`pack` (R30), so they are Booleans and not bits of a word. -/
structure Flags where
  /-- C, carry. -/
  c : Bool
  /-- Z, zero. -/
  z : Bool
  /-- I, interrupt disable; stored and pushed, controls nothing (R35). -/
  i : Bool
  /-- D, decimal; stored and pushed, controls nothing (R36). -/
  d : Bool
  /-- B, break; set by BRK only, read by no instruction (R34). -/
  b : Bool
  /-- U, unused; holds 1 at all times (R33). -/
  u : Bool
  /-- V, overflow. -/
  v : Bool
  /-- N, negative. -/
  n : Bool
  deriving DecidableEq, Repr

/-- Memory (R20, R40) as a list of cells in one canonical form: addresses strictly rising, all below
65536, and no cell holding what an unlisted address reads as (`Memory.wf`). -/
abbrev Memory := List Host.Cell

/-- The CPU state: "exactly these elements and no others" (R20, R38). -/
structure State where
  /-- A, the accumulator. -/
  a : Byte
  /-- X, an index register. -/
  x : Byte
  /-- Y, an index register. -/
  y : Byte
  /-- SP, the offset of the next free slot in the stack page (R22, R24). -/
  sp : Byte
  /-- PC, the address of the next byte to fetch (R28). -/
  pc : Word
  /-- The status flags. -/
  flags : Flags
  /-- M, the single address space. -/
  mem : Memory
  /-- `running`: true is running, false is halted (R37, R91). -/
  running : Bool
  deriving DecidableEq, Repr

/-- Why a step stops with a fault. -/
inductive Fault where
  /-- DecodeError (60_exceptions.md R220), raised by the dispatcher when the opcode byte at PC is one
  of the 105 undefined ones (R81).  It carries that byte and its address.  Safe: the spec's own
  fault, and no state element changes. -/
  | decodeError (opcode : Byte) (address : Word)
  deriving DecidableEq, Repr

/-- Why a step is refused. -/
inductive Refusal where
  /-- Raised by an arm of `exec` whose instruction has no meaning yet.  Safe.  No arm raises it. -/
  | notModelled (mnemonic : String)
  deriving DecidableEq, Repr

/-- The flags after reset (R39): all 0 but the unused bit. -/
def Flags.reset : Flags :=
  { c := false, z := false, i := false, d := false, b := false, u := true, v := false, n := false }

/-- The machine right after reset (R39, R240), with the memory list empty (assumption log 1). -/
def State.reset : State :=
  { a := 0x00, x := 0x00, y := 0x00, sp := Config.resetSP, pc := Config.resetPC,
    flags := Flags.reset, mem := [], running := true }

end Sys2Proof.Machine
end

