-- ==== Sys2Proof/Machine/Flags.lean ====
section
/-! DEFINITION. Flag computations: Z and N (10_state.md R29), the status byte (R30, R31), carry and
overflow of the adder and subtractor (44_arith_compare.md R140, R141), compares (R142), BIT (R146). -/

namespace Sys2Proof.Machine

/-- A flag as a number, 0 or 1. -/
def bitNat (b : Bool) : Nat := if b then 1 else 0

/-- `SetZN(v)` (R29): Z is `v == 0`, N is bit 7 of `v`. -/
def Flags.setZN (f : Flags) (v : Byte) : Flags := { f with z := v == 0, n := v.getLsbD 7 }

/-- One flag as the byte with that flag at bit `k`. -/
def flagAt (b : Bool) (k : Nat) : Byte := (if b then 1 else 0) <<< k

/-- `Pack()` (R30): bits 4 and 5 are 1 whatever B and U hold. -/
def pack (f : Flags) : Byte :=
  flagAt f.c 0 ||| flagAt f.z 1 ||| flagAt f.i 2 ||| flagAt f.d 3 ||| flagAt true 4 ||| flagAt true 5
    ||| flagAt f.v 6 ||| flagAt f.n 7

/-- `Unpack(b)` (R31): writes the six semantic flags; B and U keep their values. -/
def unpack (b : Byte) (f : Flags) : Flags :=
  { f with
    c := b.getLsbD 0, z := b.getLsbD 1, i := b.getLsbD 2, d := b.getLsbD 3,
    v := b.getLsbD 6, n := b.getLsbD 7 }

/-- ADC's 9-bit intermediate `t` (R140). -/
def adcSum (a m : Byte) (c : Bool) : Nat := a.toNat + m.toNat + bitNat c

/-- ADC's result `r = t[7:0]` (R140). -/
def adcResult (a m : Byte) (c : Bool) : Byte := BitVec.ofNat 8 (adcSum a m c)

/-- ADC's carry out: `t > $FF` (R140). -/
def adcCarry (a m : Byte) (c : Bool) : Bool := decide (adcSum a m c > 0xFF)

/-- ADC's overflow: the operands share a sign and the result's sign differs (R140). -/
def adcOverflow (a m r : Byte) : Bool := ((a ^^^ m) &&& 0x80 == 0) && ((a ^^^ r) &&& 0x80 != 0)

/-- SBC's `t = A - m - (1 - C)` over the integers (R141). -/
def sbcDiff (a m : Byte) (c : Bool) : Int := (a.toNat : Int) - m.toNat - (1 - bitNat c)

/-- SBC's result `r = t mod 256` (R141). -/
def sbcResult (a m : Byte) (c : Bool) : Byte := BitVec.ofInt 8 (sbcDiff a m c)

/-- SBC's carry out: 1 iff no borrow, `t >= 0` (R141, 90_conflicts.md C7). -/
def sbcCarry (a m : Byte) (c : Bool) : Bool := decide (sbcDiff a m c ≥ 0)

/-- SBC's overflow: the operands' signs differ and the result's sign differs from A's (R141). -/
def sbcOverflow (a m r : Byte) : Bool := ((a ^^^ m) &&& 0x80 != 0) && ((a ^^^ r) &&& 0x80 != 0)

/-- `Compare(reg, m)` (R142): C is unsigned `reg >= m`, Z is `reg == m`, N is bit 7 of `reg -8 m`. -/
def Flags.compare (f : Flags) (reg m : Byte) : Flags :=
  { f with c := decide (reg.toNat ≥ m.toNat), z := reg == m, n := (reg - m).getLsbD 7 }

/-- BIT's flags (R146): Z from `A & m`, N and V from bits 7 and 6 of `m`. -/
def Flags.bitTest (f : Flags) (a m : Byte) : Flags :=
  { f with z := (a &&& m) == 0, n := m.getLsbD 7, v := m.getLsbD 6 }

end Sys2Proof.Machine
end

