-- ==== Sys2Proof/Machine/Ops.lean ====
section
/-! DEFINITION. The named operations over memory and registers, and the block's events: the memory
list, byte access (00_scope.md R9, 20_memory.md), the stack (10_state.md R22 to R27), the halt of
BRK, the return of RTI, the decode error, and what `step` answers in the halted state. -/

namespace Sys2Proof.Machine

/-- What an instruction answers. -/
abbrev Result := Host.Outcome State Fault Refusal

/-! ### The memory list -/

/-- Every cell lies at or above `low` and below the top of the address space, addresses rise
strictly, and no cell holds the unlisted byte. -/
def wfFrom (low : Nat) : Memory → Bool
  | [] => true
  | (k, v) :: m =>
    decide (low ≤ k) && decide (k < Config.memorySize) && (v != Config.unlistedByte) && wfFrom (k + 1) m

/-- The canonical form of memory. -/
def Memory.wf (m : Memory) : Bool := wfFrom 0 m

/-- The byte at address `k`. -/
def Memory.read : Memory → Nat → Byte
  | [], _ => Config.unlistedByte
  | (j, v) :: m, k => if j = k then v else Memory.read m k

/-- Put a cell in front, unless it holds what an unlisted address reads as. -/
def consCell (k : Nat) (v : Byte) (m : Memory) : Memory :=
  if v = Config.unlistedByte then m else (k, v) :: m

/-- Store `v` at address `k`, keeping the canonical form. -/
def Memory.write : Memory → Nat → Byte → Memory
  | [], k, v => consCell k v []
  | (j, u) :: m, k, v =>
    if k < j then consCell k v ((j, u) :: m)
    else if k = j then consCell k v m
    else (j, u) :: Memory.write m k v

/-! ### Updates of one element of the state -/

/-- `A <- v` -/
def State.setA (s : State) (v : Byte) : State := { s with a := v }

/-- `X <- v` -/
def State.setX (s : State) (v : Byte) : State := { s with x := v }

/-- `Y <- v` -/
def State.setY (s : State) (v : Byte) : State := { s with y := v }

/-- `SP <- v` -/
def State.setSP (s : State) (v : Byte) : State := { s with sp := v }

/-- `PC <- w` -/
def State.setPC (s : State) (w : Word) : State := { s with pc := w }

/-- Replace the flags. -/
def State.setFlags (s : State) (f : Flags) : State := { s with flags := f }

/-- Replace the memory. -/
def State.setMem (s : State) (m : Memory) : State := { s with mem := m }

/-- Replace the running bit. -/
def State.setRunning (s : State) (r : Bool) : State := { s with running := r }

/-- `SetZN` on the state. -/
def State.setZN (s : State) (v : Byte) : State := s.setFlags (s.flags.setZN v)

/-- `C <- b` on the state. -/
def State.setC (s : State) (b : Bool) : State := s.setFlags { s.flags with c := b }

/-! ### Byte and word access -/

/-- `MemRead(a, 1) = M[a]` (R9, R46); the host's `read_byte` too (R52). -/
def State.readByte (s : State) (a : Word) : Byte := s.mem.read a.toNat

/-- `MemWrite(a, 1, v)` (R9, R46); the host's `write_byte` too (R52). -/
def State.writeByte (s : State) (a : Word) (v : Byte) : State := s.setMem (s.mem.write a.toNat v)

/-- `ReadWord(a)`: low byte at `a`, high byte at the next address modulo 65536 (R42). -/
def State.readWord (s : State) (a : Word) : Word := word (s.readByte a) (s.readByte (a + 1))

/-- `ReadWordZP(z)`: the second byte is read at `(z + 1) mod 256`, never from page 1 (R43). -/
def State.readWordZP (s : State) (z : Byte) : Word :=
  word (s.readByte (zext16 z)) (s.readByte (zext16 (z + 1)))

/-! ### The stack -/

/-- R23: the address of the slot that a value of SP names. -/
def stackAddr (sp : Byte) : Word := 0x0100 + zext16 sp

/-- R24: write first, then decrement. -/
def State.push (s : State) (v : Byte) : State :=
  (s.writeByte (stackAddr s.sp) v).setSP (s.sp - 1)

/-- R25: the byte a pop reads, at the incremented SP. -/
def State.popByte (s : State) : Byte := s.readByte (stackAddr (s.sp + 1))

/-- R25: the state a pop leaves; the byte read stays in memory. -/
def State.popped (s : State) : State := s.setSP (s.sp + 1)

/-- R26: high byte first, low byte second. -/
def State.pushWord (s : State) (w : Word) : State := (s.push (hi w)).push (lo w)

/-- R27: the word a PopWord reads, low byte first. -/
def State.popWord (s : State) : Word := word s.popByte s.popped.popByte

/-- R27: the state a PopWord leaves. -/
def State.poppedWord (s : State) : State := s.popped.popped

/-! ### Events -/

/-- R190, R223: BRK's halt.  It sets B and clears `running`; it pushes nothing, saves nothing and goes
nowhere (R226). -/
def State.halt (s : State) : State :=
  (s.setFlags { s.flags with b := true }).setRunning false

/-- The state after popping the status byte, as PLP and RTI do (R183, R184). -/
def State.pullFlags (s : State) : State := s.popped.setFlags (unpack s.popByte s.flags)

/-- R184: the return from interrupt: the status byte, then PC, with no +1. -/
def State.returnFromInterrupt (s : State) : State :=
  s.pullFlags.poppedWord.setPC s.pullFlags.popWord

/-- R220: the decode error at PC.  It carries the byte at PC and PC itself; the outcome holds no
state, since none changes. -/
def decodeErrorAt (s : State) : Result := .fault (.decodeError (s.readByte s.pc) s.pc)

/-- `step` in the halted state.  R92 gives no transition there, and D8 has a model answer the state
unchanged; DESIGN CHOICE (assumption log 2). -/
def stepHalted (s : State) : Result := .next s

end Sys2Proof.Machine
end

