-- ==== Sys2Proof/Syntax.lean ====
section
/-! DEFINITION. The abstract syntax: the 56 mnemonics, the 13 addressing modes with their
operand fields (30_encoding.md R61), and `Instr`, one constructor for each of the 151 rows of
spec/opcode_table.json (R79).  Opcode bytes appear only in Decode.lean. -/

namespace Sys2Proof

/-- The 56 mnemonics of R79, in the order of files 40 to 49 of the spec. -/
inductive Mnemonic where
  | lda | ldx | ldy | sta | stx | sty | ora | and | eor | inc | dec | inx | iny | dex | dey
  | asl | lsr | rol | ror | adc | sbc | cmp | cpx | cpy | bit | bcc | bcs | beq | bmi | bne
  | bpl | bvc | bvs | jmp | jsr | rts | pha | pla | php | plp | rti | brk | nop | tax | txa
  | tay | tya | tsx | txs | sec | clc | sed | cld | sei | cli | clv
  deriving DecidableEq, Repr

/-- The 13 addressing modes (R61; 90_conflicts.md C8 counts them). -/
inductive Mode where
  | implied | accumulator | immediate | zeropage | zeropageX | zeropageY | absolute
  | absoluteX | absoluteY | indirectX | indirectY | indirect | relative
  deriving DecidableEq, Repr

/-- An addressing mode with the operand field its bytes hold (R61): `v` is imm8, `z` a zero-page
byte, `w` a 16-bit address or pointer, `d` the signed displacement. -/
inductive Arg where
  | implied
  | accumulator
  | immediate (v : Byte)
  | zeropage (z : Byte)
  | zeropageX (z : Byte)
  | zeropageY (z : Byte)
  | absolute (w : Word)
  | absoluteX (w : Word)
  | absoluteY (w : Word)
  | indirectX (z : Byte)
  | indirectY (z : Byte)
  | indirect (w : Word)
  | relative (d : Byte)
  deriving DecidableEq, Repr

/-- The mode of an operand. -/
def Arg.mode : Arg → Mode
  | .implied => .implied
  | .accumulator => .accumulator
  | .immediate _ => .immediate
  | .zeropage _ => .zeropage
  | .zeropageX _ => .zeropageX
  | .zeropageY _ => .zeropageY
  | .absolute _ => .absolute
  | .absoluteX _ => .absoluteX
  | .absoluteY _ => .absoluteY
  | .indirectX _ => .indirectX
  | .indirectY _ => .indirectY
  | .indirect _ => .indirect
  | .relative _ => .relative

/-- The instructions: one constructor per row of the opcode table (R79).  A mnemonic with one row
gives its name to the constructor; the others carry their mode in their name. -/
inductive Instr where
  | ldaImmediate (v : Byte)
  | ldaZeropage (z : Byte)
  | ldaZeropageX (z : Byte)
  | ldaAbsolute (w : Word)
  | ldaAbsoluteX (w : Word)
  | ldaAbsoluteY (w : Word)
  | ldaIndirectX (z : Byte)
  | ldaIndirectY (z : Byte)
  | ldxImmediate (v : Byte)
  | ldxZeropage (z : Byte)
  | ldxZeropageY (z : Byte)
  | ldxAbsolute (w : Word)
  | ldxAbsoluteY (w : Word)
  | ldyImmediate (v : Byte)
  | ldyZeropage (z : Byte)
  | ldyZeropageX (z : Byte)
  | ldyAbsolute (w : Word)
  | ldyAbsoluteX (w : Word)
  | staZeropage (z : Byte)
  | staZeropageX (z : Byte)
  | staAbsolute (w : Word)
  | staAbsoluteX (w : Word)
  | staAbsoluteY (w : Word)
  | staIndirectX (z : Byte)
  | staIndirectY (z : Byte)
  | stxZeropage (z : Byte)
  | stxZeropageY (z : Byte)
  | stxAbsolute (w : Word)
  | styZeropage (z : Byte)
  | styZeropageX (z : Byte)
  | styAbsolute (w : Word)
  | oraImmediate (v : Byte)
  | oraZeropage (z : Byte)
  | oraZeropageX (z : Byte)
  | oraAbsolute (w : Word)
  | oraAbsoluteX (w : Word)
  | oraAbsoluteY (w : Word)
  | oraIndirectX (z : Byte)
  | oraIndirectY (z : Byte)
  | andImmediate (v : Byte)
  | andZeropage (z : Byte)
  | andZeropageX (z : Byte)
  | andAbsolute (w : Word)
  | andAbsoluteX (w : Word)
  | andAbsoluteY (w : Word)
  | andIndirectX (z : Byte)
  | andIndirectY (z : Byte)
  | eorImmediate (v : Byte)
  | eorZeropage (z : Byte)
  | eorZeropageX (z : Byte)
  | eorAbsolute (w : Word)
  | eorAbsoluteX (w : Word)
  | eorAbsoluteY (w : Word)
  | eorIndirectX (z : Byte)
  | eorIndirectY (z : Byte)
  | incZeropage (z : Byte)
  | incZeropageX (z : Byte)
  | incAbsolute (w : Word)
  | incAbsoluteX (w : Word)
  | decZeropage (z : Byte)
  | decZeropageX (z : Byte)
  | decAbsolute (w : Word)
  | decAbsoluteX (w : Word)
  | inx
  | iny
  | dex
  | dey
  | aslAccumulator
  | aslZeropage (z : Byte)
  | aslZeropageX (z : Byte)
  | aslAbsolute (w : Word)
  | aslAbsoluteX (w : Word)
  | lsrAccumulator
  | lsrZeropage (z : Byte)
  | lsrZeropageX (z : Byte)
  | lsrAbsolute (w : Word)
  | lsrAbsoluteX (w : Word)
  | rolAccumulator
  | rolZeropage (z : Byte)
  | rolZeropageX (z : Byte)
  | rolAbsolute (w : Word)
  | rolAbsoluteX (w : Word)
  | rorAccumulator
  | rorZeropage (z : Byte)
  | rorZeropageX (z : Byte)
  | rorAbsolute (w : Word)
  | rorAbsoluteX (w : Word)
  | adcImmediate (v : Byte)
  | adcZeropage (z : Byte)
  | adcZeropageX (z : Byte)
  | adcAbsolute (w : Word)
  | adcAbsoluteX (w : Word)
  | adcAbsoluteY (w : Word)
  | adcIndirectX (z : Byte)
  | adcIndirectY (z : Byte)
  | sbcImmediate (v : Byte)
  | sbcZeropage (z : Byte)
  | sbcZeropageX (z : Byte)
  | sbcAbsolute (w : Word)
  | sbcAbsoluteX (w : Word)
  | sbcAbsoluteY (w : Word)
  | sbcIndirectX (z : Byte)
  | sbcIndirectY (z : Byte)
  | cmpImmediate (v : Byte)
  | cmpZeropage (z : Byte)
  | cmpZeropageX (z : Byte)
  | cmpAbsolute (w : Word)
  | cmpAbsoluteX (w : Word)
  | cmpAbsoluteY (w : Word)
  | cmpIndirectX (z : Byte)
  | cmpIndirectY (z : Byte)
  | cpxImmediate (v : Byte)
  | cpxZeropage (z : Byte)
  | cpxAbsolute (w : Word)
  | cpyImmediate (v : Byte)
  | cpyZeropage (z : Byte)
  | cpyAbsolute (w : Word)
  | bitZeropage (z : Byte)
  | bitAbsolute (w : Word)
  | bcc (d : Byte)
  | bcs (d : Byte)
  | beq (d : Byte)
  | bmi (d : Byte)
  | bne (d : Byte)
  | bpl (d : Byte)
  | bvc (d : Byte)
  | bvs (d : Byte)
  | jmpAbsolute (w : Word)
  | jmpIndirect (w : Word)
  | jsr (w : Word)
  | rts
  | pha
  | pla
  | php
  | plp
  | rti
  | brk
  | nop
  | tax
  | txa
  | tay
  | tya
  | tsx
  | txs
  | sec
  | clc
  | sed
  | cld
  | sei
  | cli
  | clv
  deriving DecidableEq, Repr

/-- The mnemonic column of R79. -/
def Instr.mnemonic : Instr → Mnemonic
  | .ldaImmediate _ => .lda
  | .ldaZeropage _ => .lda
  | .ldaZeropageX _ => .lda
  | .ldaAbsolute _ => .lda
  | .ldaAbsoluteX _ => .lda
  | .ldaAbsoluteY _ => .lda
  | .ldaIndirectX _ => .lda
  | .ldaIndirectY _ => .lda
  | .ldxImmediate _ => .ldx
  | .ldxZeropage _ => .ldx
  | .ldxZeropageY _ => .ldx
  | .ldxAbsolute _ => .ldx
  | .ldxAbsoluteY _ => .ldx
  | .ldyImmediate _ => .ldy
  | .ldyZeropage _ => .ldy
  | .ldyZeropageX _ => .ldy
  | .ldyAbsolute _ => .ldy
  | .ldyAbsoluteX _ => .ldy
  | .staZeropage _ => .sta
  | .staZeropageX _ => .sta
  | .staAbsolute _ => .sta
  | .staAbsoluteX _ => .sta
  | .staAbsoluteY _ => .sta
  | .staIndirectX _ => .sta
  | .staIndirectY _ => .sta
  | .stxZeropage _ => .stx
  | .stxZeropageY _ => .stx
  | .stxAbsolute _ => .stx
  | .styZeropage _ => .sty
  | .styZeropageX _ => .sty
  | .styAbsolute _ => .sty
  | .oraImmediate _ => .ora
  | .oraZeropage _ => .ora
  | .oraZeropageX _ => .ora
  | .oraAbsolute _ => .ora
  | .oraAbsoluteX _ => .ora
  | .oraAbsoluteY _ => .ora
  | .oraIndirectX _ => .ora
  | .oraIndirectY _ => .ora
  | .andImmediate _ => .and
  | .andZeropage _ => .and
  | .andZeropageX _ => .and
  | .andAbsolute _ => .and
  | .andAbsoluteX _ => .and
  | .andAbsoluteY _ => .and
  | .andIndirectX _ => .and
  | .andIndirectY _ => .and
  | .eorImmediate _ => .eor
  | .eorZeropage _ => .eor
  | .eorZeropageX _ => .eor
  | .eorAbsolute _ => .eor
  | .eorAbsoluteX _ => .eor
  | .eorAbsoluteY _ => .eor
  | .eorIndirectX _ => .eor
  | .eorIndirectY _ => .eor
  | .incZeropage _ => .inc
  | .incZeropageX _ => .inc
  | .incAbsolute _ => .inc
  | .incAbsoluteX _ => .inc
  | .decZeropage _ => .dec
  | .decZeropageX _ => .dec
  | .decAbsolute _ => .dec
  | .decAbsoluteX _ => .dec
  | .inx => .inx
  | .iny => .iny
  | .dex => .dex
  | .dey => .dey
  | .aslAccumulator => .asl
  | .aslZeropage _ => .asl
  | .aslZeropageX _ => .asl
  | .aslAbsolute _ => .asl
  | .aslAbsoluteX _ => .asl
  | .lsrAccumulator => .lsr
  | .lsrZeropage _ => .lsr
  | .lsrZeropageX _ => .lsr
  | .lsrAbsolute _ => .lsr
  | .lsrAbsoluteX _ => .lsr
  | .rolAccumulator => .rol
  | .rolZeropage _ => .rol
  | .rolZeropageX _ => .rol
  | .rolAbsolute _ => .rol
  | .rolAbsoluteX _ => .rol
  | .rorAccumulator => .ror
  | .rorZeropage _ => .ror
  | .rorZeropageX _ => .ror
  | .rorAbsolute _ => .ror
  | .rorAbsoluteX _ => .ror
  | .adcImmediate _ => .adc
  | .adcZeropage _ => .adc
  | .adcZeropageX _ => .adc
  | .adcAbsolute _ => .adc
  | .adcAbsoluteX _ => .adc
  | .adcAbsoluteY _ => .adc
  | .adcIndirectX _ => .adc
  | .adcIndirectY _ => .adc
  | .sbcImmediate _ => .sbc
  | .sbcZeropage _ => .sbc
  | .sbcZeropageX _ => .sbc
  | .sbcAbsolute _ => .sbc
  | .sbcAbsoluteX _ => .sbc
  | .sbcAbsoluteY _ => .sbc
  | .sbcIndirectX _ => .sbc
  | .sbcIndirectY _ => .sbc
  | .cmpImmediate _ => .cmp
  | .cmpZeropage _ => .cmp
  | .cmpZeropageX _ => .cmp
  | .cmpAbsolute _ => .cmp
  | .cmpAbsoluteX _ => .cmp
  | .cmpAbsoluteY _ => .cmp
  | .cmpIndirectX _ => .cmp
  | .cmpIndirectY _ => .cmp
  | .cpxImmediate _ => .cpx
  | .cpxZeropage _ => .cpx
  | .cpxAbsolute _ => .cpx
  | .cpyImmediate _ => .cpy
  | .cpyZeropage _ => .cpy
  | .cpyAbsolute _ => .cpy
  | .bitZeropage _ => .bit
  | .bitAbsolute _ => .bit
  | .bcc _ => .bcc
  | .bcs _ => .bcs
  | .beq _ => .beq
  | .bmi _ => .bmi
  | .bne _ => .bne
  | .bpl _ => .bpl
  | .bvc _ => .bvc
  | .bvs _ => .bvs
  | .jmpAbsolute _ => .jmp
  | .jmpIndirect _ => .jmp
  | .jsr _ => .jsr
  | .rts => .rts
  | .pha => .pha
  | .pla => .pla
  | .php => .php
  | .plp => .plp
  | .rti => .rti
  | .brk => .brk
  | .nop => .nop
  | .tax => .tax
  | .txa => .txa
  | .tay => .tay
  | .tya => .tya
  | .tsx => .tsx
  | .txs => .txs
  | .sec => .sec
  | .clc => .clc
  | .sed => .sed
  | .cld => .cld
  | .sei => .sei
  | .cli => .cli
  | .clv => .clv

/-- The mode column of R79, with the operand field. -/
def Instr.arg : Instr → Arg
  | .ldaImmediate v => .immediate v
  | .ldaZeropage z => .zeropage z
  | .ldaZeropageX z => .zeropageX z
  | .ldaAbsolute w => .absolute w
  | .ldaAbsoluteX w => .absoluteX w
  | .ldaAbsoluteY w => .absoluteY w
  | .ldaIndirectX z => .indirectX z
  | .ldaIndirectY z => .indirectY z
  | .ldxImmediate v => .immediate v
  | .ldxZeropage z => .zeropage z
  | .ldxZeropageY z => .zeropageY z
  | .ldxAbsolute w => .absolute w
  | .ldxAbsoluteY w => .absoluteY w
  | .ldyImmediate v => .immediate v
  | .ldyZeropage z => .zeropage z
  | .ldyZeropageX z => .zeropageX z
  | .ldyAbsolute w => .absolute w
  | .ldyAbsoluteX w => .absoluteX w
  | .staZeropage z => .zeropage z
  | .staZeropageX z => .zeropageX z
  | .staAbsolute w => .absolute w
  | .staAbsoluteX w => .absoluteX w
  | .staAbsoluteY w => .absoluteY w
  | .staIndirectX z => .indirectX z
  | .staIndirectY z => .indirectY z
  | .stxZeropage z => .zeropage z
  | .stxZeropageY z => .zeropageY z
  | .stxAbsolute w => .absolute w
  | .styZeropage z => .zeropage z
  | .styZeropageX z => .zeropageX z
  | .styAbsolute w => .absolute w
  | .oraImmediate v => .immediate v
  | .oraZeropage z => .zeropage z
  | .oraZeropageX z => .zeropageX z
  | .oraAbsolute w => .absolute w
  | .oraAbsoluteX w => .absoluteX w
  | .oraAbsoluteY w => .absoluteY w
  | .oraIndirectX z => .indirectX z
  | .oraIndirectY z => .indirectY z
  | .andImmediate v => .immediate v
  | .andZeropage z => .zeropage z
  | .andZeropageX z => .zeropageX z
  | .andAbsolute w => .absolute w
  | .andAbsoluteX w => .absoluteX w
  | .andAbsoluteY w => .absoluteY w
  | .andIndirectX z => .indirectX z
  | .andIndirectY z => .indirectY z
  | .eorImmediate v => .immediate v
  | .eorZeropage z => .zeropage z
  | .eorZeropageX z => .zeropageX z
  | .eorAbsolute w => .absolute w
  | .eorAbsoluteX w => .absoluteX w
  | .eorAbsoluteY w => .absoluteY w
  | .eorIndirectX z => .indirectX z
  | .eorIndirectY z => .indirectY z
  | .incZeropage z => .zeropage z
  | .incZeropageX z => .zeropageX z
  | .incAbsolute w => .absolute w
  | .incAbsoluteX w => .absoluteX w
  | .decZeropage z => .zeropage z
  | .decZeropageX z => .zeropageX z
  | .decAbsolute w => .absolute w
  | .decAbsoluteX w => .absoluteX w
  | .inx => .implied
  | .iny => .implied
  | .dex => .implied
  | .dey => .implied
  | .aslAccumulator => .accumulator
  | .aslZeropage z => .zeropage z
  | .aslZeropageX z => .zeropageX z
  | .aslAbsolute w => .absolute w
  | .aslAbsoluteX w => .absoluteX w
  | .lsrAccumulator => .accumulator
  | .lsrZeropage z => .zeropage z
  | .lsrZeropageX z => .zeropageX z
  | .lsrAbsolute w => .absolute w
  | .lsrAbsoluteX w => .absoluteX w
  | .rolAccumulator => .accumulator
  | .rolZeropage z => .zeropage z
  | .rolZeropageX z => .zeropageX z
  | .rolAbsolute w => .absolute w
  | .rolAbsoluteX w => .absoluteX w
  | .rorAccumulator => .accumulator
  | .rorZeropage z => .zeropage z
  | .rorZeropageX z => .zeropageX z
  | .rorAbsolute w => .absolute w
  | .rorAbsoluteX w => .absoluteX w
  | .adcImmediate v => .immediate v
  | .adcZeropage z => .zeropage z
  | .adcZeropageX z => .zeropageX z
  | .adcAbsolute w => .absolute w
  | .adcAbsoluteX w => .absoluteX w
  | .adcAbsoluteY w => .absoluteY w
  | .adcIndirectX z => .indirectX z
  | .adcIndirectY z => .indirectY z
  | .sbcImmediate v => .immediate v
  | .sbcZeropage z => .zeropage z
  | .sbcZeropageX z => .zeropageX z
  | .sbcAbsolute w => .absolute w
  | .sbcAbsoluteX w => .absoluteX w
  | .sbcAbsoluteY w => .absoluteY w
  | .sbcIndirectX z => .indirectX z
  | .sbcIndirectY z => .indirectY z
  | .cmpImmediate v => .immediate v
  | .cmpZeropage z => .zeropage z
  | .cmpZeropageX z => .zeropageX z
  | .cmpAbsolute w => .absolute w
  | .cmpAbsoluteX w => .absoluteX w
  | .cmpAbsoluteY w => .absoluteY w
  | .cmpIndirectX z => .indirectX z
  | .cmpIndirectY z => .indirectY z
  | .cpxImmediate v => .immediate v
  | .cpxZeropage z => .zeropage z
  | .cpxAbsolute w => .absolute w
  | .cpyImmediate v => .immediate v
  | .cpyZeropage z => .zeropage z
  | .cpyAbsolute w => .absolute w
  | .bitZeropage z => .zeropage z
  | .bitAbsolute w => .absolute w
  | .bcc d => .relative d
  | .bcs d => .relative d
  | .beq d => .relative d
  | .bmi d => .relative d
  | .bne d => .relative d
  | .bpl d => .relative d
  | .bvc d => .relative d
  | .bvs d => .relative d
  | .jmpAbsolute w => .absolute w
  | .jmpIndirect w => .indirect w
  | .jsr w => .absolute w
  | .rts => .implied
  | .pha => .implied
  | .pla => .implied
  | .php => .implied
  | .plp => .implied
  | .rti => .implied
  | .brk => .implied
  | .nop => .implied
  | .tax => .implied
  | .txa => .implied
  | .tay => .implied
  | .tya => .implied
  | .tsx => .implied
  | .txs => .implied
  | .sec => .implied
  | .clc => .implied
  | .sed => .implied
  | .cld => .implied
  | .sei => .implied
  | .cli => .implied
  | .clv => .implied

/-- The mode of an instruction. -/
def Instr.mode (i : Instr) : Mode := i.arg.mode

end Sys2Proof
end

