-- ==== Sys2Proof/Machine/Operands.lean ====
section
/-! DEFINITION. The addressing-mode resolver (30_encoding.md R63 to R76).  Each memory mode has one
function that gives its effective address; `effectiveAddress` and `operandValue` gather them over
`Arg`, the 13 modes with their operand fields.  When an operand is resolved, PC already lies past the
instruction (R62).  An operand of R63 is a value (immediate), an effective address, or the shift
operand `Place` (accumulator or memory, 43_shifts.md R130). -/

namespace Sys2Proof.Machine

/-- R67. -/
def eaZeropage (z : Byte) : Word := zext16 z

/-- R68: the sum wraps in the zero page. -/
def eaZeropageX (z : Byte) (s : State) : Word := zext16 (z + s.x)

/-- R69. -/
def eaZeropageY (z : Byte) (s : State) : Word := zext16 (z + s.y)

/-- R70. -/
def eaAbsolute (w : Word) : Word := w

/-- R71: 16-bit addition. -/
def eaAbsoluteX (w : Word) (s : State) : Word := w + zext16 s.x

/-- R72. -/
def eaAbsoluteY (w : Word) (s : State) : Word := w + zext16 s.y

/-- R73: the pointer `z +8 X` and its second byte both wrap in the zero page. -/
def eaIndirectX (z : Byte) (s : State) : Word := s.readWordZP (z + s.x)

/-- R74: the pointer's second byte wraps in the zero page (the spec's decision D4); Y is added to
the word modulo 65536. -/
def eaIndirectY (z : Byte) (s : State) : Word := s.readWordZP z + zext16 s.y

/-- R75: the address the JMP-indirect pointer's high byte is read from; it stays in the page of the
pointer. -/
def indirectHighAddr (ptr : Word) : Word := (ptr &&& 0xFF00) ||| zext16 (lo ptr + 1)

/-- R75: JMP indirect, with the page-boundary bug. -/
def eaIndirect (ptr : Word) (s : State) : Word :=
  word (s.readByte ptr) (s.readByte (indirectHighAddr ptr))

/-- R76: the branch target, from PC past the displacement byte. -/
def eaRelative (d : Byte) (s : State) : Word := s.pc + sext16 d

/-- R63: the effective address of every mode that has one. -/
def effectiveAddress : Arg → State → Option Word
  | .implied, _ | .accumulator, _ | .immediate _, _ => none
  | .zeropage z, _ => some (eaZeropage z)
  | .zeropageX z, s => some (eaZeropageX z s)
  | .zeropageY z, s => some (eaZeropageY z s)
  | .absolute w, _ => some (eaAbsolute w)
  | .absoluteX w, s => some (eaAbsoluteX w s)
  | .absoluteY w, s => some (eaAbsoluteY w s)
  | .indirectX z, s => some (eaIndirectX z s)
  | .indirectY z, s => some (eaIndirectY z s)
  | .indirect w, s => some (eaIndirect w s)
  | .relative d, s => some (eaRelative d s)

/-- R63, R66: `val(op)`: the immediate byte, or the byte at the effective address. -/
def operandValue (o : Arg) (s : State) : Option Byte :=
  match o with
  | .immediate v => some v
  | o => (effectiveAddress o s).map s.readByte

/-- R130: what a shift works on. -/
inductive Place where
  | acc
  | mem (ea : Word)
  deriving DecidableEq, Repr

/-- R130: `get()`. -/
def State.getPlace (s : State) : Place → Byte
  | .acc => s.a
  | .mem ea => s.readByte ea

/-- R130: `put(r)`. -/
def State.putPlace (s : State) (p : Place) (r : Byte) : State :=
  match p with
  | .acc => s.setA r
  | .mem ea => s.writeByte ea r

/-- R65, R130: the shift operand of a mode: the accumulator, or the memory byte at the effective
address; no other mode has one. -/
def shiftPlace : Arg → State → Option Place
  | .accumulator, _ => some .acc
  | o, s => (effectiveAddress o s).map Place.mem

end Sys2Proof.Machine
end

