-- ==== Sys2Proof/Machine/Arith.lean ====
section
/-! DEFINITION. Arithmetic, compare and bit test (44_arith_compare.md R140 to R148).  ADC and SBC are
binary whatever D holds (R147, the spec's decision D5). -/

namespace Sys2Proof.Machine

/-- What ADC and SBC share: C and V, then `A <- r; SetZN(r)`. -/
def accumulate (r : Byte) (carry overflow : Bool) (s : State) : State :=
  ((s.setFlags { s.flags with c := carry, v := overflow }).setA r).setZN r

/-- ADC (R140). -/
def addCarry (m : Byte) (s : State) : State :=
  accumulate (adcResult s.a m s.flags.c) (adcCarry s.a m s.flags.c)
    (adcOverflow s.a m (adcResult s.a m s.flags.c)) s

/-- SBC (R141). -/
def subCarry (m : Byte) (s : State) : State :=
  accumulate (sbcResult s.a m s.flags.c) (sbcCarry s.a m s.flags.c)
    (sbcOverflow s.a m (sbcResult s.a m s.flags.c)) s

/-- CMP (R143). -/
def compareA (m : Byte) (s : State) : State := s.setFlags (s.flags.compare s.a m)

/-- CPX (R144). -/
def compareX (m : Byte) (s : State) : State := s.setFlags (s.flags.compare s.x m)

/-- CPY (R145). -/
def compareY (m : Byte) (s : State) : State := s.setFlags (s.flags.compare s.y m)

/-- BIT (R146). -/
def bitTest (m : Byte) (s : State) : State := s.setFlags (s.flags.bitTest s.a m)

/-- `ADC #$nn` (R140, R66). -/
def execAdcImmediate (v : Byte) (s : State) : Result := .next (addCarry v s)

/-- `ADC $nn` (R140, R67). -/
def execAdcZeropage (z : Byte) (s : State) : Result :=
  .next (addCarry (s.readByte (eaZeropage z)) s)

/-- `ADC $nn,X` (R140, R68). -/
def execAdcZeropageX (z : Byte) (s : State) : Result :=
  .next (addCarry (s.readByte (eaZeropageX z s)) s)

/-- `ADC $nnnn` (R140, R70). -/
def execAdcAbsolute (w : Word) (s : State) : Result :=
  .next (addCarry (s.readByte (eaAbsolute w)) s)

/-- `ADC $nnnn,X` (R140, R71). -/
def execAdcAbsoluteX (w : Word) (s : State) : Result :=
  .next (addCarry (s.readByte (eaAbsoluteX w s)) s)

/-- `ADC $nnnn,Y` (R140, R72). -/
def execAdcAbsoluteY (w : Word) (s : State) : Result :=
  .next (addCarry (s.readByte (eaAbsoluteY w s)) s)

/-- `ADC ($nn,X)` (R140, R73). -/
def execAdcIndirectX (z : Byte) (s : State) : Result :=
  .next (addCarry (s.readByte (eaIndirectX z s)) s)

/-- `ADC ($nn),Y` (R140, R74). -/
def execAdcIndirectY (z : Byte) (s : State) : Result :=
  .next (addCarry (s.readByte (eaIndirectY z s)) s)

/-- `SBC #$nn` (R141, R66). -/
def execSbcImmediate (v : Byte) (s : State) : Result := .next (subCarry v s)

/-- `SBC $nn` (R141, R67). -/
def execSbcZeropage (z : Byte) (s : State) : Result :=
  .next (subCarry (s.readByte (eaZeropage z)) s)

/-- `SBC $nn,X` (R141, R68). -/
def execSbcZeropageX (z : Byte) (s : State) : Result :=
  .next (subCarry (s.readByte (eaZeropageX z s)) s)

/-- `SBC $nnnn` (R141, R70). -/
def execSbcAbsolute (w : Word) (s : State) : Result :=
  .next (subCarry (s.readByte (eaAbsolute w)) s)

/-- `SBC $nnnn,X` (R141, R71). -/
def execSbcAbsoluteX (w : Word) (s : State) : Result :=
  .next (subCarry (s.readByte (eaAbsoluteX w s)) s)

/-- `SBC $nnnn,Y` (R141, R72). -/
def execSbcAbsoluteY (w : Word) (s : State) : Result :=
  .next (subCarry (s.readByte (eaAbsoluteY w s)) s)

/-- `SBC ($nn,X)` (R141, R73). -/
def execSbcIndirectX (z : Byte) (s : State) : Result :=
  .next (subCarry (s.readByte (eaIndirectX z s)) s)

/-- `SBC ($nn),Y` (R141, R74). -/
def execSbcIndirectY (z : Byte) (s : State) : Result :=
  .next (subCarry (s.readByte (eaIndirectY z s)) s)

/-- `CMP #$nn` (R143, R66). -/
def execCmpImmediate (v : Byte) (s : State) : Result := .next (compareA v s)

/-- `CMP $nn` (R143, R67). -/
def execCmpZeropage (z : Byte) (s : State) : Result :=
  .next (compareA (s.readByte (eaZeropage z)) s)

/-- `CMP $nn,X` (R143, R68). -/
def execCmpZeropageX (z : Byte) (s : State) : Result :=
  .next (compareA (s.readByte (eaZeropageX z s)) s)

/-- `CMP $nnnn` (R143, R70). -/
def execCmpAbsolute (w : Word) (s : State) : Result :=
  .next (compareA (s.readByte (eaAbsolute w)) s)

/-- `CMP $nnnn,X` (R143, R71). -/
def execCmpAbsoluteX (w : Word) (s : State) : Result :=
  .next (compareA (s.readByte (eaAbsoluteX w s)) s)

/-- `CMP $nnnn,Y` (R143, R72). -/
def execCmpAbsoluteY (w : Word) (s : State) : Result :=
  .next (compareA (s.readByte (eaAbsoluteY w s)) s)

/-- `CMP ($nn,X)` (R143, R73). -/
def execCmpIndirectX (z : Byte) (s : State) : Result :=
  .next (compareA (s.readByte (eaIndirectX z s)) s)

/-- `CMP ($nn),Y` (R143, R74). -/
def execCmpIndirectY (z : Byte) (s : State) : Result :=
  .next (compareA (s.readByte (eaIndirectY z s)) s)

/-- `CPX #$nn` (R144, R66). -/
def execCpxImmediate (v : Byte) (s : State) : Result := .next (compareX v s)

/-- `CPX $nn` (R144, R67). -/
def execCpxZeropage (z : Byte) (s : State) : Result :=
  .next (compareX (s.readByte (eaZeropage z)) s)

/-- `CPX $nnnn` (R144, R70). -/
def execCpxAbsolute (w : Word) (s : State) : Result :=
  .next (compareX (s.readByte (eaAbsolute w)) s)

/-- `CPY #$nn` (R145, R66). -/
def execCpyImmediate (v : Byte) (s : State) : Result := .next (compareY v s)

/-- `CPY $nn` (R145, R67). -/
def execCpyZeropage (z : Byte) (s : State) : Result :=
  .next (compareY (s.readByte (eaZeropage z)) s)

/-- `CPY $nnnn` (R145, R70). -/
def execCpyAbsolute (w : Word) (s : State) : Result :=
  .next (compareY (s.readByte (eaAbsolute w)) s)

/-- `BIT $nn` (R146, R67). -/
def execBitZeropage (z : Byte) (s : State) : Result := .next (bitTest (s.readByte (eaZeropage z)) s)

/-- `BIT $nnnn` (R146, R70). -/
def execBitAbsolute (w : Word) (s : State) : Result := .next (bitTest (s.readByte (eaAbsolute w)) s)

end Sys2Proof.Machine
end

