-- ==== Sys2Proof/Machine/BrkNop.lean ====
section
/-! DEFINITION. BRK and NOP (47_brk_nop.md R190, R191).  PC stays past the one opcode byte. -/

namespace Sys2Proof.Machine

/-- `BRK` (R190): `B <- 1; halt`. -/
def execBrk (s : State) : Result := .next s.halt

/-- `NOP` (R191): nothing beyond the opcode fetch. -/
def execNop (s : State) : Result := .next s

end Sys2Proof.Machine
end

