-- ==== Sys2Proof/Machine/Control.lean ====
section
/-! DEFINITION. Branches, jumps, subroutine call and return (45_control.md R160 to R172).  PC holds the
address after the instruction when a meaning runs. -/

namespace Sys2Proof.Machine

/-- `Branch(cond)` (R160): the target of relative mode if the test holds, else PC as it is. -/
def branch (cond : Bool) (d : Byte) (s : State) : State :=
  if cond then s.setPC (eaRelative d s) else s

/-- JMP (R169): `PC <- ea`. -/
def jump (ea : Word) (s : State) : State := s.setPC ea

/-- JSR (R170): push PC - 1, the address of its own last byte, then jump. -/
def callSubroutine (ea : Word) (s : State) : State := (s.pushWord (s.pc - 1)).setPC ea

/-- `BCC label` (R161): `Branch(C == 0)`. -/
def execBcc (d : Byte) (s : State) : Result := .next (branch (s.flags.c == false) d s)

/-- `BCS label` (R162): `Branch(C == 1)`. -/
def execBcs (d : Byte) (s : State) : Result := .next (branch (s.flags.c == true) d s)

/-- `BEQ label` (R163): `Branch(Z == 1)`. -/
def execBeq (d : Byte) (s : State) : Result := .next (branch (s.flags.z == true) d s)

/-- `BMI label` (R164): `Branch(N == 1)`. -/
def execBmi (d : Byte) (s : State) : Result := .next (branch (s.flags.n == true) d s)

/-- `BNE label` (R165): `Branch(Z == 0)`. -/
def execBne (d : Byte) (s : State) : Result := .next (branch (s.flags.z == false) d s)

/-- `BPL label` (R166): `Branch(N == 0)`. -/
def execBpl (d : Byte) (s : State) : Result := .next (branch (s.flags.n == false) d s)

/-- `BVC label` (R167): `Branch(V == 0)`. -/
def execBvc (d : Byte) (s : State) : Result := .next (branch (s.flags.v == false) d s)

/-- `BVS label` (R168): `Branch(V == 1)`. -/
def execBvs (d : Byte) (s : State) : Result := .next (branch (s.flags.v == true) d s)

/-- `JMP $nnnn` (R169, R70). -/
def execJmpAbsolute (w : Word) (s : State) : Result := .next (jump (eaAbsolute w) s)

/-- `JMP ($nnnn)` (R169, R75). -/
def execJmpIndirect (w : Word) (s : State) : Result := .next (jump (eaIndirect w s) s)

/-- `JSR $nnnn` (R170, R70). -/
def execJsr (w : Word) (s : State) : Result := .next (callSubroutine (eaAbsolute w) s)

/-- `RTS` (R171): `w <- PopWord(); PC <- w +16 1`. -/
def execRts (s : State) : Result := .next (s.poppedWord.setPC (s.popWord + 1))

end Sys2Proof.Machine
end

