-- ==== Sys2Proof/Machine/FlagOps.lean ====
section
/-! DEFINITION. Flag set and clear (49_flag_ops.md R210 to R216): exactly one named flag, no other
state. -/

namespace Sys2Proof.Machine

/-- `SEC` (R210). -/
def execSec (s : State) : Result := .next (s.setFlags { s.flags with c := true })

/-- `CLC` (R211). -/
def execClc (s : State) : Result := .next (s.setFlags { s.flags with c := false })

/-- `SED` (R212). -/
def execSed (s : State) : Result := .next (s.setFlags { s.flags with d := true })

/-- `CLD` (R213). -/
def execCld (s : State) : Result := .next (s.setFlags { s.flags with d := false })

/-- `SEI` (R214). -/
def execSei (s : State) : Result := .next (s.setFlags { s.flags with i := true })

/-- `CLI` (R215). -/
def execCli (s : State) : Result := .next (s.setFlags { s.flags with i := false })

/-- `CLV` (R216). -/
def execClv (s : State) : Result := .next (s.setFlags { s.flags with v := false })

end Sys2Proof.Machine
end

