-- ==== Sys2Proof/Machine/IncDec.lean ====
section
/-! DEFINITION. Increment and decrement (42_inc_dec.md R120 to R125): plus or minus 1 modulo 256, Z and
N from the result, C and V unchanged.  The memory forms read their address, then write it. -/

namespace Sys2Proof.Machine

/-- INC (R120). -/
def incMem (ea : Word) (s : State) : State :=
  (s.writeByte ea (s.readByte ea + 1)).setZN (s.readByte ea + 1)

/-- DEC (R121). -/
def decMem (ea : Word) (s : State) : State :=
  (s.writeByte ea (s.readByte ea - 1)).setZN (s.readByte ea - 1)

/-- `INC $nn` (R120, R67). -/
def execIncZeropage (z : Byte) (s : State) : Result := .next (incMem (eaZeropage z) s)

/-- `INC $nn,X` (R120, R68). -/
def execIncZeropageX (z : Byte) (s : State) : Result := .next (incMem (eaZeropageX z s) s)

/-- `INC $nnnn` (R120, R70). -/
def execIncAbsolute (w : Word) (s : State) : Result := .next (incMem (eaAbsolute w) s)

/-- `INC $nnnn,X` (R120, R71). -/
def execIncAbsoluteX (w : Word) (s : State) : Result := .next (incMem (eaAbsoluteX w s) s)

/-- `DEC $nn` (R121, R67). -/
def execDecZeropage (z : Byte) (s : State) : Result := .next (decMem (eaZeropage z) s)

/-- `DEC $nn,X` (R121, R68). -/
def execDecZeropageX (z : Byte) (s : State) : Result := .next (decMem (eaZeropageX z s) s)

/-- `DEC $nnnn` (R121, R70). -/
def execDecAbsolute (w : Word) (s : State) : Result := .next (decMem (eaAbsolute w) s)

/-- `DEC $nnnn,X` (R121, R71). -/
def execDecAbsoluteX (w : Word) (s : State) : Result := .next (decMem (eaAbsoluteX w s) s)

/-- `INX` (R122). -/
def execInx (s : State) : Result := .next ((s.setX (s.x + 1)).setZN (s.x + 1))

/-- `INY` (R123). -/
def execIny (s : State) : Result := .next ((s.setY (s.y + 1)).setZN (s.y + 1))

/-- `DEX` (R124). -/
def execDex (s : State) : Result := .next ((s.setX (s.x - 1)).setZN (s.x - 1))

/-- `DEY` (R125). -/
def execDey (s : State) : Result := .next ((s.setY (s.y - 1)).setZN (s.y - 1))

end Sys2Proof.Machine
end

