-- ==== Sys2Proof/Machine/LoadStore.lean ====
section
/-! DEFINITION. Loads and stores (40_load_store.md R100 to R106).  Loads set Z and N from the value
loaded; stores touch no flag. -/

namespace Sys2Proof.Machine

/-- LDA (R101): `A <- v; SetZN(v)`. -/
def loadA (v : Byte) (s : State) : State := (s.setA v).setZN v

/-- LDX (R102): `X <- v; SetZN(v)`. -/
def loadX (v : Byte) (s : State) : State := (s.setX v).setZN v

/-- LDY (R103): `Y <- v; SetZN(v)`. -/
def loadY (v : Byte) (s : State) : State := (s.setY v).setZN v

/-- STA (R104): `MemWrite(ea, 1, A)`; the address is never read. -/
def storeA (ea : Word) (s : State) : State := s.writeByte ea s.a

/-- STX (R105): `MemWrite(ea, 1, X)`. -/
def storeX (ea : Word) (s : State) : State := s.writeByte ea s.x

/-- STY (R106): `MemWrite(ea, 1, Y)`. -/
def storeY (ea : Word) (s : State) : State := s.writeByte ea s.y

/-- `LDA #$nn` (R101, R66). -/
def execLdaImmediate (v : Byte) (s : State) : Result := .next (loadA v s)

/-- `LDA $nn` (R101, R67). -/
def execLdaZeropage (z : Byte) (s : State) : Result := .next (loadA (s.readByte (eaZeropage z)) s)

/-- `LDA $nn,X` (R101, R68). -/
def execLdaZeropageX (z : Byte) (s : State) : Result :=
  .next (loadA (s.readByte (eaZeropageX z s)) s)

/-- `LDA $nnnn` (R101, R70). -/
def execLdaAbsolute (w : Word) (s : State) : Result := .next (loadA (s.readByte (eaAbsolute w)) s)

/-- `LDA $nnnn,X` (R101, R71). -/
def execLdaAbsoluteX (w : Word) (s : State) : Result :=
  .next (loadA (s.readByte (eaAbsoluteX w s)) s)

/-- `LDA $nnnn,Y` (R101, R72). -/
def execLdaAbsoluteY (w : Word) (s : State) : Result :=
  .next (loadA (s.readByte (eaAbsoluteY w s)) s)

/-- `LDA ($nn,X)` (R101, R73). -/
def execLdaIndirectX (z : Byte) (s : State) : Result :=
  .next (loadA (s.readByte (eaIndirectX z s)) s)

/-- `LDA ($nn),Y` (R101, R74). -/
def execLdaIndirectY (z : Byte) (s : State) : Result :=
  .next (loadA (s.readByte (eaIndirectY z s)) s)

/-- `LDX #$nn` (R102, R66). -/
def execLdxImmediate (v : Byte) (s : State) : Result := .next (loadX v s)

/-- `LDX $nn` (R102, R67). -/
def execLdxZeropage (z : Byte) (s : State) : Result := .next (loadX (s.readByte (eaZeropage z)) s)

/-- `LDX $nn,Y` (R102, R69). -/
def execLdxZeropageY (z : Byte) (s : State) : Result :=
  .next (loadX (s.readByte (eaZeropageY z s)) s)

/-- `LDX $nnnn` (R102, R70). -/
def execLdxAbsolute (w : Word) (s : State) : Result := .next (loadX (s.readByte (eaAbsolute w)) s)

/-- `LDX $nnnn,Y` (R102, R72). -/
def execLdxAbsoluteY (w : Word) (s : State) : Result :=
  .next (loadX (s.readByte (eaAbsoluteY w s)) s)

/-- `LDY #$nn` (R103, R66). -/
def execLdyImmediate (v : Byte) (s : State) : Result := .next (loadY v s)

/-- `LDY $nn` (R103, R67). -/
def execLdyZeropage (z : Byte) (s : State) : Result := .next (loadY (s.readByte (eaZeropage z)) s)

/-- `LDY $nn,X` (R103, R68). -/
def execLdyZeropageX (z : Byte) (s : State) : Result :=
  .next (loadY (s.readByte (eaZeropageX z s)) s)

/-- `LDY $nnnn` (R103, R70). -/
def execLdyAbsolute (w : Word) (s : State) : Result := .next (loadY (s.readByte (eaAbsolute w)) s)

/-- `LDY $nnnn,X` (R103, R71). -/
def execLdyAbsoluteX (w : Word) (s : State) : Result :=
  .next (loadY (s.readByte (eaAbsoluteX w s)) s)

/-- `STA $nn` (R104, R67). -/
def execStaZeropage (z : Byte) (s : State) : Result := .next (storeA (eaZeropage z) s)

/-- `STA $nn,X` (R104, R68). -/
def execStaZeropageX (z : Byte) (s : State) : Result := .next (storeA (eaZeropageX z s) s)

/-- `STA $nnnn` (R104, R70). -/
def execStaAbsolute (w : Word) (s : State) : Result := .next (storeA (eaAbsolute w) s)

/-- `STA $nnnn,X` (R104, R71). -/
def execStaAbsoluteX (w : Word) (s : State) : Result := .next (storeA (eaAbsoluteX w s) s)

/-- `STA $nnnn,Y` (R104, R72). -/
def execStaAbsoluteY (w : Word) (s : State) : Result := .next (storeA (eaAbsoluteY w s) s)

/-- `STA ($nn,X)` (R104, R73). -/
def execStaIndirectX (z : Byte) (s : State) : Result := .next (storeA (eaIndirectX z s) s)

/-- `STA ($nn),Y` (R104, R74). -/
def execStaIndirectY (z : Byte) (s : State) : Result := .next (storeA (eaIndirectY z s) s)

/-- `STX $nn` (R105, R67). -/
def execStxZeropage (z : Byte) (s : State) : Result := .next (storeX (eaZeropage z) s)

/-- `STX $nn,Y` (R105, R69). -/
def execStxZeropageY (z : Byte) (s : State) : Result := .next (storeX (eaZeropageY z s) s)

/-- `STX $nnnn` (R105, R70). -/
def execStxAbsolute (w : Word) (s : State) : Result := .next (storeX (eaAbsolute w) s)

/-- `STY $nn` (R106, R67). -/
def execStyZeropage (z : Byte) (s : State) : Result := .next (storeY (eaZeropage z) s)

/-- `STY $nn,X` (R106, R68). -/
def execStyZeropageX (z : Byte) (s : State) : Result := .next (storeY (eaZeropageX z s) s)

/-- `STY $nnnn` (R106, R70). -/
def execStyAbsolute (w : Word) (s : State) : Result := .next (storeY (eaAbsolute w) s)

end Sys2Proof.Machine
end

