-- ==== Sys2Proof/Machine/Logic.lean ====
section
/-! DEFINITION. Logical operations (41_logic.md R110 to R112): `A <- A op value`, Z and N from the
result. -/

namespace Sys2Proof.Machine

/-- ORA (R110). -/
def orA (m : Byte) (s : State) : State := (s.setA (s.a ||| m)).setZN (s.a ||| m)

/-- AND (R111). -/
def andA (m : Byte) (s : State) : State := (s.setA (s.a &&& m)).setZN (s.a &&& m)

/-- EOR (R112). -/
def eorA (m : Byte) (s : State) : State := (s.setA (s.a ^^^ m)).setZN (s.a ^^^ m)

/-- `ORA #$nn` (R110, R66). -/
def execOraImmediate (v : Byte) (s : State) : Result := .next (orA v s)

/-- `ORA $nn` (R110, R67). -/
def execOraZeropage (z : Byte) (s : State) : Result := .next (orA (s.readByte (eaZeropage z)) s)

/-- `ORA $nn,X` (R110, R68). -/
def execOraZeropageX (z : Byte) (s : State) : Result := .next (orA (s.readByte (eaZeropageX z s)) s)

/-- `ORA $nnnn` (R110, R70). -/
def execOraAbsolute (w : Word) (s : State) : Result := .next (orA (s.readByte (eaAbsolute w)) s)

/-- `ORA $nnnn,X` (R110, R71). -/
def execOraAbsoluteX (w : Word) (s : State) : Result := .next (orA (s.readByte (eaAbsoluteX w s)) s)

/-- `ORA $nnnn,Y` (R110, R72). -/
def execOraAbsoluteY (w : Word) (s : State) : Result := .next (orA (s.readByte (eaAbsoluteY w s)) s)

/-- `ORA ($nn,X)` (R110, R73). -/
def execOraIndirectX (z : Byte) (s : State) : Result := .next (orA (s.readByte (eaIndirectX z s)) s)

/-- `ORA ($nn),Y` (R110, R74). -/
def execOraIndirectY (z : Byte) (s : State) : Result := .next (orA (s.readByte (eaIndirectY z s)) s)

/-- `AND #$nn` (R111, R66). -/
def execAndImmediate (v : Byte) (s : State) : Result := .next (andA v s)

/-- `AND $nn` (R111, R67). -/
def execAndZeropage (z : Byte) (s : State) : Result := .next (andA (s.readByte (eaZeropage z)) s)

/-- `AND $nn,X` (R111, R68). -/
def execAndZeropageX (z : Byte) (s : State) : Result :=
  .next (andA (s.readByte (eaZeropageX z s)) s)

/-- `AND $nnnn` (R111, R70). -/
def execAndAbsolute (w : Word) (s : State) : Result := .next (andA (s.readByte (eaAbsolute w)) s)

/-- `AND $nnnn,X` (R111, R71). -/
def execAndAbsoluteX (w : Word) (s : State) : Result :=
  .next (andA (s.readByte (eaAbsoluteX w s)) s)

/-- `AND $nnnn,Y` (R111, R72). -/
def execAndAbsoluteY (w : Word) (s : State) : Result :=
  .next (andA (s.readByte (eaAbsoluteY w s)) s)

/-- `AND ($nn,X)` (R111, R73). -/
def execAndIndirectX (z : Byte) (s : State) : Result :=
  .next (andA (s.readByte (eaIndirectX z s)) s)

/-- `AND ($nn),Y` (R111, R74). -/
def execAndIndirectY (z : Byte) (s : State) : Result :=
  .next (andA (s.readByte (eaIndirectY z s)) s)

/-- `EOR #$nn` (R112, R66). -/
def execEorImmediate (v : Byte) (s : State) : Result := .next (eorA v s)

/-- `EOR $nn` (R112, R67). -/
def execEorZeropage (z : Byte) (s : State) : Result := .next (eorA (s.readByte (eaZeropage z)) s)

/-- `EOR $nn,X` (R112, R68). -/
def execEorZeropageX (z : Byte) (s : State) : Result :=
  .next (eorA (s.readByte (eaZeropageX z s)) s)

/-- `EOR $nnnn` (R112, R70). -/
def execEorAbsolute (w : Word) (s : State) : Result := .next (eorA (s.readByte (eaAbsolute w)) s)

/-- `EOR $nnnn,X` (R112, R71). -/
def execEorAbsoluteX (w : Word) (s : State) : Result :=
  .next (eorA (s.readByte (eaAbsoluteX w s)) s)

/-- `EOR $nnnn,Y` (R112, R72). -/
def execEorAbsoluteY (w : Word) (s : State) : Result :=
  .next (eorA (s.readByte (eaAbsoluteY w s)) s)

/-- `EOR ($nn,X)` (R112, R73). -/
def execEorIndirectX (z : Byte) (s : State) : Result :=
  .next (eorA (s.readByte (eaIndirectX z s)) s)

/-- `EOR ($nn),Y` (R112, R74). -/
def execEorIndirectY (z : Byte) (s : State) : Result :=
  .next (eorA (s.readByte (eaIndirectY z s)) s)

end Sys2Proof.Machine
end

