-- ==== Sys2Proof/Machine/Shifts.lean ====
section
/-! DEFINITION. Shifts and rotates by one bit (43_shifts.md R130 to R134), on A or on a memory byte:
`v <- get(); C <- the bit shifted out; put(r); SetZN(r)`.  V is unchanged. -/

namespace Sys2Proof.Machine

/-- What the four shifts share (R130): write the result, then C, then Z and N. -/
def shiftTo (p : Place) (r : Byte) (carry : Bool) (s : State) : State :=
  ((s.putPlace p r).setC carry).setZN r

/-- R131: `(v << 1) & $FF`. -/
def aslResult (v : Byte) : Byte := v <<< 1

/-- R132: `v >> 1`. -/
def lsrResult (v : Byte) : Byte := v >>> 1

/-- R133: `((v << 1) & $FF) | c0`. -/
def rolResult (v : Byte) (c : Bool) : Byte := (v <<< 1) ||| flagAt c 0

/-- R134: `(v >> 1) | (c0 << 7)`. -/
def rorResult (v : Byte) (c : Bool) : Byte := (v >>> 1) ||| flagAt c 7

/-- ASL (R131): C takes the old bit 7. -/
def shiftLeft (p : Place) (s : State) : State :=
  shiftTo p (aslResult (s.getPlace p)) ((s.getPlace p).getLsbD 7) s

/-- LSR (R132): C takes the old bit 0. -/
def shiftRight (p : Place) (s : State) : State :=
  shiftTo p (lsrResult (s.getPlace p)) ((s.getPlace p).getLsbD 0) s

/-- ROL (R133): the old C enters bit 0, C takes the old bit 7. -/
def rotateLeft (p : Place) (s : State) : State :=
  shiftTo p (rolResult (s.getPlace p) s.flags.c) ((s.getPlace p).getLsbD 7) s

/-- ROR (R134): the old C enters bit 7, C takes the old bit 0. -/
def rotateRight (p : Place) (s : State) : State :=
  shiftTo p (rorResult (s.getPlace p) s.flags.c) ((s.getPlace p).getLsbD 0) s

/-- `ASL A` (R131, R65). -/
def execAslAccumulator (s : State) : Result := .next (shiftLeft .acc s)

/-- `ASL $nn` (R131, R67). -/
def execAslZeropage (z : Byte) (s : State) : Result := .next (shiftLeft (.mem (eaZeropage z)) s)

/-- `ASL $nn,X` (R131, R68). -/
def execAslZeropageX (z : Byte) (s : State) : Result := .next (shiftLeft (.mem (eaZeropageX z s)) s)

/-- `ASL $nnnn` (R131, R70). -/
def execAslAbsolute (w : Word) (s : State) : Result := .next (shiftLeft (.mem (eaAbsolute w)) s)

/-- `ASL $nnnn,X` (R131, R71). -/
def execAslAbsoluteX (w : Word) (s : State) : Result := .next (shiftLeft (.mem (eaAbsoluteX w s)) s)

/-- `LSR A` (R132, R65). -/
def execLsrAccumulator (s : State) : Result := .next (shiftRight .acc s)

/-- `LSR $nn` (R132, R67). -/
def execLsrZeropage (z : Byte) (s : State) : Result := .next (shiftRight (.mem (eaZeropage z)) s)

/-- `LSR $nn,X` (R132, R68). -/
def execLsrZeropageX (z : Byte) (s : State) : Result :=
  .next (shiftRight (.mem (eaZeropageX z s)) s)

/-- `LSR $nnnn` (R132, R70). -/
def execLsrAbsolute (w : Word) (s : State) : Result := .next (shiftRight (.mem (eaAbsolute w)) s)

/-- `LSR $nnnn,X` (R132, R71). -/
def execLsrAbsoluteX (w : Word) (s : State) : Result :=
  .next (shiftRight (.mem (eaAbsoluteX w s)) s)

/-- `ROL A` (R133, R65). -/
def execRolAccumulator (s : State) : Result := .next (rotateLeft .acc s)

/-- `ROL $nn` (R133, R67). -/
def execRolZeropage (z : Byte) (s : State) : Result := .next (rotateLeft (.mem (eaZeropage z)) s)

/-- `ROL $nn,X` (R133, R68). -/
def execRolZeropageX (z : Byte) (s : State) : Result :=
  .next (rotateLeft (.mem (eaZeropageX z s)) s)

/-- `ROL $nnnn` (R133, R70). -/
def execRolAbsolute (w : Word) (s : State) : Result := .next (rotateLeft (.mem (eaAbsolute w)) s)

/-- `ROL $nnnn,X` (R133, R71). -/
def execRolAbsoluteX (w : Word) (s : State) : Result :=
  .next (rotateLeft (.mem (eaAbsoluteX w s)) s)

/-- `ROR A` (R134, R65). -/
def execRorAccumulator (s : State) : Result := .next (rotateRight .acc s)

/-- `ROR $nn` (R134, R67). -/
def execRorZeropage (z : Byte) (s : State) : Result := .next (rotateRight (.mem (eaZeropage z)) s)

/-- `ROR $nn,X` (R134, R68). -/
def execRorZeropageX (z : Byte) (s : State) : Result :=
  .next (rotateRight (.mem (eaZeropageX z s)) s)

/-- `ROR $nnnn` (R134, R70). -/
def execRorAbsolute (w : Word) (s : State) : Result := .next (rotateRight (.mem (eaAbsolute w)) s)

/-- `ROR $nnnn,X` (R134, R71). -/
def execRorAbsoluteX (w : Word) (s : State) : Result :=
  .next (rotateRight (.mem (eaAbsoluteX w s)) s)

end Sys2Proof.Machine
end

