-- ==== Sys2Proof/Machine/Stack.lean ====
section
/-! DEFINITION. Stack operations and return from interrupt (46_stack.md R180 to R184). -/

namespace Sys2Proof.Machine

/-- `PHA` (R180): `Push(A)`. -/
def execPha (s : State) : Result := .next (s.push s.a)

/-- `PLA` (R181): `v <- Pop(); A <- v; SetZN(v)`. -/
def execPla (s : State) : Result := .next ((s.popped.setA s.popByte).setZN s.popByte)

/-- `PHP` (R182): `Push(Pack())`. -/
def execPhp (s : State) : Result := .next (s.push (pack s.flags))

/-- `PLP` (R183): `b <- Pop(); Unpack(b)`. -/
def execPlp (s : State) : Result := .next s.pullFlags

/-- `RTI` (R184): `b <- Pop(); Unpack(b); PC <- PopWord()`. -/
def execRti (s : State) : Result := .next s.returnFromInterrupt

end Sys2Proof.Machine
end

