-- ==== Sys2Proof/Machine/Transfers.lean ====
section
/-! DEFINITION. Register transfers (48_transfers.md R200 to R205): all but TXS set Z and N from the
value moved. -/

namespace Sys2Proof.Machine

/-- `TAX` (R200). -/
def execTax (s : State) : Result := .next ((s.setX s.a).setZN s.a)

/-- `TXA` (R201). -/
def execTxa (s : State) : Result := .next ((s.setA s.x).setZN s.x)

/-- `TAY` (R202). -/
def execTay (s : State) : Result := .next ((s.setY s.a).setZN s.a)

/-- `TYA` (R203). -/
def execTya (s : State) : Result := .next ((s.setA s.y).setZN s.y)

/-- `TSX` (R204). -/
def execTsx (s : State) : Result := .next ((s.setX s.sp).setZN s.sp)

/-- `TXS` (R205): no flag is written. -/
def execTxs (s : State) : Result := .next (s.setSP s.x)

end Sys2Proof.Machine
end

