-- ==== Sys2Proof/Machine/Dispatch.lean ====
section
/-! DEFINITION. The handler column of the opcode table (30_encoding.md R78, R79): one arm per
instruction.  When an arm runs, PC already lies past the instruction (R62). -/

namespace Sys2Proof.Machine

/-- Run one instruction's handler (R90). -/
def exec (i : Instr) (s : State) : Host.Outcome State Fault Refusal :=
  match i with
  -- 40_load_store.md
  | .ldaImmediate v => Sys2Proof.Machine.execLdaImmediate v s
  | .ldaZeropage z => Sys2Proof.Machine.execLdaZeropage z s
  | .ldaZeropageX z => Sys2Proof.Machine.execLdaZeropageX z s
  | .ldaAbsolute w => Sys2Proof.Machine.execLdaAbsolute w s
  | .ldaAbsoluteX w => Sys2Proof.Machine.execLdaAbsoluteX w s
  | .ldaAbsoluteY w => Sys2Proof.Machine.execLdaAbsoluteY w s
  | .ldaIndirectX z => Sys2Proof.Machine.execLdaIndirectX z s
  | .ldaIndirectY z => Sys2Proof.Machine.execLdaIndirectY z s
  | .ldxImmediate v => Sys2Proof.Machine.execLdxImmediate v s
  | .ldxZeropage z => Sys2Proof.Machine.execLdxZeropage z s
  | .ldxZeropageY z => Sys2Proof.Machine.execLdxZeropageY z s
  | .ldxAbsolute w => Sys2Proof.Machine.execLdxAbsolute w s
  | .ldxAbsoluteY w => Sys2Proof.Machine.execLdxAbsoluteY w s
  | .ldyImmediate v => Sys2Proof.Machine.execLdyImmediate v s
  | .ldyZeropage z => Sys2Proof.Machine.execLdyZeropage z s
  | .ldyZeropageX z => Sys2Proof.Machine.execLdyZeropageX z s
  | .ldyAbsolute w => Sys2Proof.Machine.execLdyAbsolute w s
  | .ldyAbsoluteX w => Sys2Proof.Machine.execLdyAbsoluteX w s
  | .staZeropage z => Sys2Proof.Machine.execStaZeropage z s
  | .staZeropageX z => Sys2Proof.Machine.execStaZeropageX z s
  | .staAbsolute w => Sys2Proof.Machine.execStaAbsolute w s
  | .staAbsoluteX w => Sys2Proof.Machine.execStaAbsoluteX w s
  | .staAbsoluteY w => Sys2Proof.Machine.execStaAbsoluteY w s
  | .staIndirectX z => Sys2Proof.Machine.execStaIndirectX z s
  | .staIndirectY z => Sys2Proof.Machine.execStaIndirectY z s
  | .stxZeropage z => Sys2Proof.Machine.execStxZeropage z s
  | .stxZeropageY z => Sys2Proof.Machine.execStxZeropageY z s
  | .stxAbsolute w => Sys2Proof.Machine.execStxAbsolute w s
  | .styZeropage z => Sys2Proof.Machine.execStyZeropage z s
  | .styZeropageX z => Sys2Proof.Machine.execStyZeropageX z s
  | .styAbsolute w => Sys2Proof.Machine.execStyAbsolute w s
  -- 41_logic.md
  | .oraImmediate v => Sys2Proof.Machine.execOraImmediate v s
  | .oraZeropage z => Sys2Proof.Machine.execOraZeropage z s
  | .oraZeropageX z => Sys2Proof.Machine.execOraZeropageX z s
  | .oraAbsolute w => Sys2Proof.Machine.execOraAbsolute w s
  | .oraAbsoluteX w => Sys2Proof.Machine.execOraAbsoluteX w s
  | .oraAbsoluteY w => Sys2Proof.Machine.execOraAbsoluteY w s
  | .oraIndirectX z => Sys2Proof.Machine.execOraIndirectX z s
  | .oraIndirectY z => Sys2Proof.Machine.execOraIndirectY z s
  | .andImmediate v => Sys2Proof.Machine.execAndImmediate v s
  | .andZeropage z => Sys2Proof.Machine.execAndZeropage z s
  | .andZeropageX z => Sys2Proof.Machine.execAndZeropageX z s
  | .andAbsolute w => Sys2Proof.Machine.execAndAbsolute w s
  | .andAbsoluteX w => Sys2Proof.Machine.execAndAbsoluteX w s
  | .andAbsoluteY w => Sys2Proof.Machine.execAndAbsoluteY w s
  | .andIndirectX z => Sys2Proof.Machine.execAndIndirectX z s
  | .andIndirectY z => Sys2Proof.Machine.execAndIndirectY z s
  | .eorImmediate v => Sys2Proof.Machine.execEorImmediate v s
  | .eorZeropage z => Sys2Proof.Machine.execEorZeropage z s
  | .eorZeropageX z => Sys2Proof.Machine.execEorZeropageX z s
  | .eorAbsolute w => Sys2Proof.Machine.execEorAbsolute w s
  | .eorAbsoluteX w => Sys2Proof.Machine.execEorAbsoluteX w s
  | .eorAbsoluteY w => Sys2Proof.Machine.execEorAbsoluteY w s
  | .eorIndirectX z => Sys2Proof.Machine.execEorIndirectX z s
  | .eorIndirectY z => Sys2Proof.Machine.execEorIndirectY z s
  -- 42_inc_dec.md
  | .incZeropage z => Sys2Proof.Machine.execIncZeropage z s
  | .incZeropageX z => Sys2Proof.Machine.execIncZeropageX z s
  | .incAbsolute w => Sys2Proof.Machine.execIncAbsolute w s
  | .incAbsoluteX w => Sys2Proof.Machine.execIncAbsoluteX w s
  | .decZeropage z => Sys2Proof.Machine.execDecZeropage z s
  | .decZeropageX z => Sys2Proof.Machine.execDecZeropageX z s
  | .decAbsolute w => Sys2Proof.Machine.execDecAbsolute w s
  | .decAbsoluteX w => Sys2Proof.Machine.execDecAbsoluteX w s
  | .inx => Sys2Proof.Machine.execInx s
  | .iny => Sys2Proof.Machine.execIny s
  | .dex => Sys2Proof.Machine.execDex s
  | .dey => Sys2Proof.Machine.execDey s
  -- 43_shifts.md
  | .aslAccumulator => Sys2Proof.Machine.execAslAccumulator s
  | .aslZeropage z => Sys2Proof.Machine.execAslZeropage z s
  | .aslZeropageX z => Sys2Proof.Machine.execAslZeropageX z s
  | .aslAbsolute w => Sys2Proof.Machine.execAslAbsolute w s
  | .aslAbsoluteX w => Sys2Proof.Machine.execAslAbsoluteX w s
  | .lsrAccumulator => Sys2Proof.Machine.execLsrAccumulator s
  | .lsrZeropage z => Sys2Proof.Machine.execLsrZeropage z s
  | .lsrZeropageX z => Sys2Proof.Machine.execLsrZeropageX z s
  | .lsrAbsolute w => Sys2Proof.Machine.execLsrAbsolute w s
  | .lsrAbsoluteX w => Sys2Proof.Machine.execLsrAbsoluteX w s
  | .rolAccumulator => Sys2Proof.Machine.execRolAccumulator s
  | .rolZeropage z => Sys2Proof.Machine.execRolZeropage z s
  | .rolZeropageX z => Sys2Proof.Machine.execRolZeropageX z s
  | .rolAbsolute w => Sys2Proof.Machine.execRolAbsolute w s
  | .rolAbsoluteX w => Sys2Proof.Machine.execRolAbsoluteX w s
  | .rorAccumulator => Sys2Proof.Machine.execRorAccumulator s
  | .rorZeropage z => Sys2Proof.Machine.execRorZeropage z s
  | .rorZeropageX z => Sys2Proof.Machine.execRorZeropageX z s
  | .rorAbsolute w => Sys2Proof.Machine.execRorAbsolute w s
  | .rorAbsoluteX w => Sys2Proof.Machine.execRorAbsoluteX w s
  -- 44_arith_compare.md
  | .adcImmediate v => Sys2Proof.Machine.execAdcImmediate v s
  | .adcZeropage z => Sys2Proof.Machine.execAdcZeropage z s
  | .adcZeropageX z => Sys2Proof.Machine.execAdcZeropageX z s
  | .adcAbsolute w => Sys2Proof.Machine.execAdcAbsolute w s
  | .adcAbsoluteX w => Sys2Proof.Machine.execAdcAbsoluteX w s
  | .adcAbsoluteY w => Sys2Proof.Machine.execAdcAbsoluteY w s
  | .adcIndirectX z => Sys2Proof.Machine.execAdcIndirectX z s
  | .adcIndirectY z => Sys2Proof.Machine.execAdcIndirectY z s
  | .sbcImmediate v => Sys2Proof.Machine.execSbcImmediate v s
  | .sbcZeropage z => Sys2Proof.Machine.execSbcZeropage z s
  | .sbcZeropageX z => Sys2Proof.Machine.execSbcZeropageX z s
  | .sbcAbsolute w => Sys2Proof.Machine.execSbcAbsolute w s
  | .sbcAbsoluteX w => Sys2Proof.Machine.execSbcAbsoluteX w s
  | .sbcAbsoluteY w => Sys2Proof.Machine.execSbcAbsoluteY w s
  | .sbcIndirectX z => Sys2Proof.Machine.execSbcIndirectX z s
  | .sbcIndirectY z => Sys2Proof.Machine.execSbcIndirectY z s
  | .cmpImmediate v => Sys2Proof.Machine.execCmpImmediate v s
  | .cmpZeropage z => Sys2Proof.Machine.execCmpZeropage z s
  | .cmpZeropageX z => Sys2Proof.Machine.execCmpZeropageX z s
  | .cmpAbsolute w => Sys2Proof.Machine.execCmpAbsolute w s
  | .cmpAbsoluteX w => Sys2Proof.Machine.execCmpAbsoluteX w s
  | .cmpAbsoluteY w => Sys2Proof.Machine.execCmpAbsoluteY w s
  | .cmpIndirectX z => Sys2Proof.Machine.execCmpIndirectX z s
  | .cmpIndirectY z => Sys2Proof.Machine.execCmpIndirectY z s
  | .cpxImmediate v => Sys2Proof.Machine.execCpxImmediate v s
  | .cpxZeropage z => Sys2Proof.Machine.execCpxZeropage z s
  | .cpxAbsolute w => Sys2Proof.Machine.execCpxAbsolute w s
  | .cpyImmediate v => Sys2Proof.Machine.execCpyImmediate v s
  | .cpyZeropage z => Sys2Proof.Machine.execCpyZeropage z s
  | .cpyAbsolute w => Sys2Proof.Machine.execCpyAbsolute w s
  | .bitZeropage z => Sys2Proof.Machine.execBitZeropage z s
  | .bitAbsolute w => Sys2Proof.Machine.execBitAbsolute w s
  -- 45_control.md
  | .bcc d => Sys2Proof.Machine.execBcc d s
  | .bcs d => Sys2Proof.Machine.execBcs d s
  | .beq d => Sys2Proof.Machine.execBeq d s
  | .bmi d => Sys2Proof.Machine.execBmi d s
  | .bne d => Sys2Proof.Machine.execBne d s
  | .bpl d => Sys2Proof.Machine.execBpl d s
  | .bvc d => Sys2Proof.Machine.execBvc d s
  | .bvs d => Sys2Proof.Machine.execBvs d s
  | .jmpAbsolute w => Sys2Proof.Machine.execJmpAbsolute w s
  | .jmpIndirect w => Sys2Proof.Machine.execJmpIndirect w s
  | .jsr w => Sys2Proof.Machine.execJsr w s
  | .rts => Sys2Proof.Machine.execRts s
  -- 46_stack.md
  | .pha => Sys2Proof.Machine.execPha s
  | .pla => Sys2Proof.Machine.execPla s
  | .php => Sys2Proof.Machine.execPhp s
  | .plp => Sys2Proof.Machine.execPlp s
  | .rti => Sys2Proof.Machine.execRti s
  -- 47_brk_nop.md
  | .brk => Sys2Proof.Machine.execBrk s
  | .nop => Sys2Proof.Machine.execNop s
  -- 48_transfers.md
  | .tax => Sys2Proof.Machine.execTax s
  | .txa => Sys2Proof.Machine.execTxa s
  | .tay => Sys2Proof.Machine.execTay s
  | .tya => Sys2Proof.Machine.execTya s
  | .tsx => Sys2Proof.Machine.execTsx s
  | .txs => Sys2Proof.Machine.execTxs s
  -- 49_flag_ops.md
  | .sec => Sys2Proof.Machine.execSec s
  | .clc => Sys2Proof.Machine.execClc s
  | .sed => Sys2Proof.Machine.execSed s
  | .cld => Sys2Proof.Machine.execCld s
  | .sei => Sys2Proof.Machine.execSei s
  | .cli => Sys2Proof.Machine.execCli s
  | .clv => Sys2Proof.Machine.execClv s

end Sys2Proof.Machine
end

