-- ==== Sys2Proof/Decode.lean ====
section
/-! DEFINITION. Decoding and encoding (30_encoding.md).  The opcode byte alone selects the row of the
256-entry lookup (R60, R78); the operand bytes follow at consecutive addresses, low byte first
(R41, R61).  Decoding is total and rejects by name.  The byte values are the spec's decision D1
(assumption log 3). -/

namespace Sys2Proof

open Machine (lo hi word)

/-- Why a byte string is not an instruction. -/
inductive DecodeReject where
  /-- There is no opcode byte. -/
  | noBytes
  /-- The opcode byte is one of the 105 of R81. -/
  | undefinedOpcode (opcode : Byte)
  /-- The opcode is defined, but its operand bytes are missing. -/
  | missingOperand (opcode : Byte)
  deriving DecidableEq, Repr

/-- How a row's instruction is built from its operand bytes: none, one, or two read as a
little-endian word (R61). -/
inductive Build where
  | done (i : Instr)
  | byte (f : Byte → Instr)
  | word (f : Word → Instr)

/-- One row of the opcode table (R79): the opcode byte and the instruction it selects. -/
structure OpcodeRow where
  opcode : Byte
  build : Build


/-- Opcodes 0x (R80, row 0x). -/
def opcodeRow0 : List OpcodeRow := [
  ⟨0x00, .done .brk⟩,
  ⟨0x01, .byte .oraIndirectX⟩,
  ⟨0x05, .byte .oraZeropage⟩,
  ⟨0x06, .byte .aslZeropage⟩,
  ⟨0x08, .done .php⟩,
  ⟨0x09, .byte .oraImmediate⟩,
  ⟨0x0A, .done .aslAccumulator⟩,
  ⟨0x0D, .word .oraAbsolute⟩,
  ⟨0x0E, .word .aslAbsolute⟩]

/-- Opcodes 1x (R80, row 1x). -/
def opcodeRow1 : List OpcodeRow := [
  ⟨0x10, .byte .bpl⟩,
  ⟨0x11, .byte .oraIndirectY⟩,
  ⟨0x15, .byte .oraZeropageX⟩,
  ⟨0x16, .byte .aslZeropageX⟩,
  ⟨0x18, .done .clc⟩,
  ⟨0x19, .word .oraAbsoluteY⟩,
  ⟨0x1D, .word .oraAbsoluteX⟩,
  ⟨0x1E, .word .aslAbsoluteX⟩]

/-- Opcodes 2x (R80, row 2x). -/
def opcodeRow2 : List OpcodeRow := [
  ⟨0x20, .word .jsr⟩,
  ⟨0x21, .byte .andIndirectX⟩,
  ⟨0x24, .byte .bitZeropage⟩,
  ⟨0x25, .byte .andZeropage⟩,
  ⟨0x26, .byte .rolZeropage⟩,
  ⟨0x28, .done .plp⟩,
  ⟨0x29, .byte .andImmediate⟩,
  ⟨0x2A, .done .rolAccumulator⟩,
  ⟨0x2C, .word .bitAbsolute⟩,
  ⟨0x2D, .word .andAbsolute⟩,
  ⟨0x2E, .word .rolAbsolute⟩]

/-- Opcodes 3x (R80, row 3x). -/
def opcodeRow3 : List OpcodeRow := [
  ⟨0x30, .byte .bmi⟩,
  ⟨0x31, .byte .andIndirectY⟩,
  ⟨0x35, .byte .andZeropageX⟩,
  ⟨0x36, .byte .rolZeropageX⟩,
  ⟨0x38, .done .sec⟩,
  ⟨0x39, .word .andAbsoluteY⟩,
  ⟨0x3D, .word .andAbsoluteX⟩,
  ⟨0x3E, .word .rolAbsoluteX⟩]

/-- Opcodes 4x (R80, row 4x). -/
def opcodeRow4 : List OpcodeRow := [
  ⟨0x40, .done .rti⟩,
  ⟨0x41, .byte .eorIndirectX⟩,
  ⟨0x45, .byte .eorZeropage⟩,
  ⟨0x46, .byte .lsrZeropage⟩,
  ⟨0x48, .done .pha⟩,
  ⟨0x49, .byte .eorImmediate⟩,
  ⟨0x4A, .done .lsrAccumulator⟩,
  ⟨0x4C, .word .jmpAbsolute⟩,
  ⟨0x4D, .word .eorAbsolute⟩,
  ⟨0x4E, .word .lsrAbsolute⟩]

/-- Opcodes 5x (R80, row 5x). -/
def opcodeRow5 : List OpcodeRow := [
  ⟨0x50, .byte .bvc⟩,
  ⟨0x51, .byte .eorIndirectY⟩,
  ⟨0x55, .byte .eorZeropageX⟩,
  ⟨0x56, .byte .lsrZeropageX⟩,
  ⟨0x58, .done .cli⟩,
  ⟨0x59, .word .eorAbsoluteY⟩,
  ⟨0x5D, .word .eorAbsoluteX⟩,
  ⟨0x5E, .word .lsrAbsoluteX⟩]

/-- Opcodes 6x (R80, row 6x). -/
def opcodeRow6 : List OpcodeRow := [
  ⟨0x60, .done .rts⟩,
  ⟨0x61, .byte .adcIndirectX⟩,
  ⟨0x65, .byte .adcZeropage⟩,
  ⟨0x66, .byte .rorZeropage⟩,
  ⟨0x68, .done .pla⟩,
  ⟨0x69, .byte .adcImmediate⟩,
  ⟨0x6A, .done .rorAccumulator⟩,
  ⟨0x6C, .word .jmpIndirect⟩,
  ⟨0x6D, .word .adcAbsolute⟩,
  ⟨0x6E, .word .rorAbsolute⟩]

/-- Opcodes 7x (R80, row 7x). -/
def opcodeRow7 : List OpcodeRow := [
  ⟨0x70, .byte .bvs⟩,
  ⟨0x71, .byte .adcIndirectY⟩,
  ⟨0x75, .byte .adcZeropageX⟩,
  ⟨0x76, .byte .rorZeropageX⟩,
  ⟨0x78, .done .sei⟩,
  ⟨0x79, .word .adcAbsoluteY⟩,
  ⟨0x7D, .word .adcAbsoluteX⟩,
  ⟨0x7E, .word .rorAbsoluteX⟩]

/-- Opcodes 8x (R80, row 8x). -/
def opcodeRow8 : List OpcodeRow := [
  ⟨0x81, .byte .staIndirectX⟩,
  ⟨0x84, .byte .styZeropage⟩,
  ⟨0x85, .byte .staZeropage⟩,
  ⟨0x86, .byte .stxZeropage⟩,
  ⟨0x88, .done .dey⟩,
  ⟨0x8A, .done .txa⟩,
  ⟨0x8C, .word .styAbsolute⟩,
  ⟨0x8D, .word .staAbsolute⟩,
  ⟨0x8E, .word .stxAbsolute⟩]

/-- Opcodes 9x (R80, row 9x). -/
def opcodeRow9 : List OpcodeRow := [
  ⟨0x90, .byte .bcc⟩,
  ⟨0x91, .byte .staIndirectY⟩,
  ⟨0x94, .byte .styZeropageX⟩,
  ⟨0x95, .byte .staZeropageX⟩,
  ⟨0x96, .byte .stxZeropageY⟩,
  ⟨0x98, .done .tya⟩,
  ⟨0x99, .word .staAbsoluteY⟩,
  ⟨0x9A, .done .txs⟩,
  ⟨0x9D, .word .staAbsoluteX⟩]

/-- Opcodes Ax (R80, row Ax). -/
def opcodeRowA : List OpcodeRow := [
  ⟨0xA0, .byte .ldyImmediate⟩,
  ⟨0xA1, .byte .ldaIndirectX⟩,
  ⟨0xA2, .byte .ldxImmediate⟩,
  ⟨0xA4, .byte .ldyZeropage⟩,
  ⟨0xA5, .byte .ldaZeropage⟩,
  ⟨0xA6, .byte .ldxZeropage⟩,
  ⟨0xA8, .done .tay⟩,
  ⟨0xA9, .byte .ldaImmediate⟩,
  ⟨0xAA, .done .tax⟩,
  ⟨0xAC, .word .ldyAbsolute⟩,
  ⟨0xAD, .word .ldaAbsolute⟩,
  ⟨0xAE, .word .ldxAbsolute⟩]

/-- Opcodes Bx (R80, row Bx). -/
def opcodeRowB : List OpcodeRow := [
  ⟨0xB0, .byte .bcs⟩,
  ⟨0xB1, .byte .ldaIndirectY⟩,
  ⟨0xB4, .byte .ldyZeropageX⟩,
  ⟨0xB5, .byte .ldaZeropageX⟩,
  ⟨0xB6, .byte .ldxZeropageY⟩,
  ⟨0xB8, .done .clv⟩,
  ⟨0xB9, .word .ldaAbsoluteY⟩,
  ⟨0xBA, .done .tsx⟩,
  ⟨0xBC, .word .ldyAbsoluteX⟩,
  ⟨0xBD, .word .ldaAbsoluteX⟩,
  ⟨0xBE, .word .ldxAbsoluteY⟩]

/-- Opcodes Cx (R80, row Cx). -/
def opcodeRowC : List OpcodeRow := [
  ⟨0xC0, .byte .cpyImmediate⟩,
  ⟨0xC1, .byte .cmpIndirectX⟩,
  ⟨0xC4, .byte .cpyZeropage⟩,
  ⟨0xC5, .byte .cmpZeropage⟩,
  ⟨0xC6, .byte .decZeropage⟩,
  ⟨0xC8, .done .iny⟩,
  ⟨0xC9, .byte .cmpImmediate⟩,
  ⟨0xCA, .done .dex⟩,
  ⟨0xCC, .word .cpyAbsolute⟩,
  ⟨0xCD, .word .cmpAbsolute⟩,
  ⟨0xCE, .word .decAbsolute⟩]

/-- Opcodes Dx (R80, row Dx). -/
def opcodeRowD : List OpcodeRow := [
  ⟨0xD0, .byte .bne⟩,
  ⟨0xD1, .byte .cmpIndirectY⟩,
  ⟨0xD5, .byte .cmpZeropageX⟩,
  ⟨0xD6, .byte .decZeropageX⟩,
  ⟨0xD8, .done .cld⟩,
  ⟨0xD9, .word .cmpAbsoluteY⟩,
  ⟨0xDD, .word .cmpAbsoluteX⟩,
  ⟨0xDE, .word .decAbsoluteX⟩]

/-- Opcodes Ex (R80, row Ex). -/
def opcodeRowE : List OpcodeRow := [
  ⟨0xE0, .byte .cpxImmediate⟩,
  ⟨0xE1, .byte .sbcIndirectX⟩,
  ⟨0xE4, .byte .cpxZeropage⟩,
  ⟨0xE5, .byte .sbcZeropage⟩,
  ⟨0xE6, .byte .incZeropage⟩,
  ⟨0xE8, .done .inx⟩,
  ⟨0xE9, .byte .sbcImmediate⟩,
  ⟨0xEA, .done .nop⟩,
  ⟨0xEC, .word .cpxAbsolute⟩,
  ⟨0xED, .word .sbcAbsolute⟩,
  ⟨0xEE, .word .incAbsolute⟩]

/-- Opcodes Fx (R80, row Fx). -/
def opcodeRowF : List OpcodeRow := [
  ⟨0xF0, .byte .beq⟩,
  ⟨0xF1, .byte .sbcIndirectY⟩,
  ⟨0xF5, .byte .sbcZeropageX⟩,
  ⟨0xF6, .byte .incZeropageX⟩,
  ⟨0xF8, .done .sed⟩,
  ⟨0xF9, .word .sbcAbsoluteY⟩,
  ⟨0xFD, .word .sbcAbsoluteX⟩,
  ⟨0xFE, .word .incAbsoluteX⟩]

/-- R79: the 151 defined opcodes, in opcode order.  Every byte not listed is undefined (R81). -/
def opcodeTable : List OpcodeRow :=
  opcodeRow0 ++ opcodeRow1 ++ opcodeRow2 ++ opcodeRow3 ++ opcodeRow4 ++ opcodeRow5 ++ opcodeRow6 ++ opcodeRow7
    ++ opcodeRow8 ++ opcodeRow9 ++ opcodeRowA ++ opcodeRowB ++ opcodeRowC ++ opcodeRowD ++ opcodeRowE ++ opcodeRowF

/-- R78: the lookup from an opcode byte to its row, or "undefined". -/
def lookupOpcode (op : Byte) : Option Build :=
  (opcodeTable.find? fun row => row.opcode == op).map OpcodeRow.build

/-- R61: take a row's operand bytes from the head of the bytes after the opcode. -/
def finish (op : Byte) : Build → List Byte → Except DecodeReject (Instr × List Byte)
  | .done i, rest => .ok (i, rest)
  | .byte f, b :: rest => .ok (f b, rest)
  | .word f, l :: h :: rest => .ok (f (word l h), rest)
  | .byte _, [] | .word _, [] | .word _, [_] => .error (.missingOperand op)

/-- Decode one instruction at the head of a byte string; answers it with the bytes after it. -/
def decode : List Byte → Except DecodeReject (Instr × List Byte)
  | [] => .error .noBytes
  | op :: rest =>
    match lookupOpcode op with
    | none => .error (.undefinedOpcode op)
    | some b => finish op b rest

/-- R61: an instruction's length in bytes, from its mode. -/
def Mode.length : Mode → Nat
  | .implied | .accumulator => 1
  | .immediate | .zeropage | .zeropageX | .zeropageY | .indirectX | .indirectY | .relative => 2
  | .absolute | .absoluteX | .absoluteY | .indirect => 3

/-- The length of an instruction. -/
def Instr.length (i : Instr) : Nat := i.mode.length


/-- The opcode byte of an instruction: R79, and the Encoding line of its rule in files 40 to 49. -/
def Instr.opcode : Instr → Byte
  | .ldaImmediate _ => 0xA9
  | .ldaZeropage _ => 0xA5
  | .ldaZeropageX _ => 0xB5
  | .ldaAbsolute _ => 0xAD
  | .ldaAbsoluteX _ => 0xBD
  | .ldaAbsoluteY _ => 0xB9
  | .ldaIndirectX _ => 0xA1
  | .ldaIndirectY _ => 0xB1
  | .ldxImmediate _ => 0xA2
  | .ldxZeropage _ => 0xA6
  | .ldxZeropageY _ => 0xB6
  | .ldxAbsolute _ => 0xAE
  | .ldxAbsoluteY _ => 0xBE
  | .ldyImmediate _ => 0xA0
  | .ldyZeropage _ => 0xA4
  | .ldyZeropageX _ => 0xB4
  | .ldyAbsolute _ => 0xAC
  | .ldyAbsoluteX _ => 0xBC
  | .staZeropage _ => 0x85
  | .staZeropageX _ => 0x95
  | .staAbsolute _ => 0x8D
  | .staAbsoluteX _ => 0x9D
  | .staAbsoluteY _ => 0x99
  | .staIndirectX _ => 0x81
  | .staIndirectY _ => 0x91
  | .stxZeropage _ => 0x86
  | .stxZeropageY _ => 0x96
  | .stxAbsolute _ => 0x8E
  | .styZeropage _ => 0x84
  | .styZeropageX _ => 0x94
  | .styAbsolute _ => 0x8C
  | .oraImmediate _ => 0x09
  | .oraZeropage _ => 0x05
  | .oraZeropageX _ => 0x15
  | .oraAbsolute _ => 0x0D
  | .oraAbsoluteX _ => 0x1D
  | .oraAbsoluteY _ => 0x19
  | .oraIndirectX _ => 0x01
  | .oraIndirectY _ => 0x11
  | .andImmediate _ => 0x29
  | .andZeropage _ => 0x25
  | .andZeropageX _ => 0x35
  | .andAbsolute _ => 0x2D
  | .andAbsoluteX _ => 0x3D
  | .andAbsoluteY _ => 0x39
  | .andIndirectX _ => 0x21
  | .andIndirectY _ => 0x31
  | .eorImmediate _ => 0x49
  | .eorZeropage _ => 0x45
  | .eorZeropageX _ => 0x55
  | .eorAbsolute _ => 0x4D
  | .eorAbsoluteX _ => 0x5D
  | .eorAbsoluteY _ => 0x59
  | .eorIndirectX _ => 0x41
  | .eorIndirectY _ => 0x51
  | .incZeropage _ => 0xE6
  | .incZeropageX _ => 0xF6
  | .incAbsolute _ => 0xEE
  | .incAbsoluteX _ => 0xFE
  | .decZeropage _ => 0xC6
  | .decZeropageX _ => 0xD6
  | .decAbsolute _ => 0xCE
  | .decAbsoluteX _ => 0xDE
  | .inx => 0xE8
  | .iny => 0xC8
  | .dex => 0xCA
  | .dey => 0x88
  | .aslAccumulator => 0x0A
  | .aslZeropage _ => 0x06
  | .aslZeropageX _ => 0x16
  | .aslAbsolute _ => 0x0E
  | .aslAbsoluteX _ => 0x1E
  | .lsrAccumulator => 0x4A
  | .lsrZeropage _ => 0x46
  | .lsrZeropageX _ => 0x56
  | .lsrAbsolute _ => 0x4E
  | .lsrAbsoluteX _ => 0x5E
  | .rolAccumulator => 0x2A
  | .rolZeropage _ => 0x26
  | .rolZeropageX _ => 0x36
  | .rolAbsolute _ => 0x2E
  | .rolAbsoluteX _ => 0x3E
  | .rorAccumulator => 0x6A
  | .rorZeropage _ => 0x66
  | .rorZeropageX _ => 0x76
  | .rorAbsolute _ => 0x6E
  | .rorAbsoluteX _ => 0x7E
  | .adcImmediate _ => 0x69
  | .adcZeropage _ => 0x65
  | .adcZeropageX _ => 0x75
  | .adcAbsolute _ => 0x6D
  | .adcAbsoluteX _ => 0x7D
  | .adcAbsoluteY _ => 0x79
  | .adcIndirectX _ => 0x61
  | .adcIndirectY _ => 0x71
  | .sbcImmediate _ => 0xE9
  | .sbcZeropage _ => 0xE5
  | .sbcZeropageX _ => 0xF5
  | .sbcAbsolute _ => 0xED
  | .sbcAbsoluteX _ => 0xFD
  | .sbcAbsoluteY _ => 0xF9
  | .sbcIndirectX _ => 0xE1
  | .sbcIndirectY _ => 0xF1
  | .cmpImmediate _ => 0xC9
  | .cmpZeropage _ => 0xC5
  | .cmpZeropageX _ => 0xD5
  | .cmpAbsolute _ => 0xCD
  | .cmpAbsoluteX _ => 0xDD
  | .cmpAbsoluteY _ => 0xD9
  | .cmpIndirectX _ => 0xC1
  | .cmpIndirectY _ => 0xD1
  | .cpxImmediate _ => 0xE0
  | .cpxZeropage _ => 0xE4
  | .cpxAbsolute _ => 0xEC
  | .cpyImmediate _ => 0xC0
  | .cpyZeropage _ => 0xC4
  | .cpyAbsolute _ => 0xCC
  | .bitZeropage _ => 0x24
  | .bitAbsolute _ => 0x2C
  | .bcc _ => 0x90
  | .bcs _ => 0xB0
  | .beq _ => 0xF0
  | .bmi _ => 0x30
  | .bne _ => 0xD0
  | .bpl _ => 0x10
  | .bvc _ => 0x50
  | .bvs _ => 0x70
  | .jmpAbsolute _ => 0x4C
  | .jmpIndirect _ => 0x6C
  | .jsr _ => 0x20
  | .rts => 0x60
  | .pha => 0x48
  | .pla => 0x68
  | .php => 0x08
  | .plp => 0x28
  | .rti => 0x40
  | .brk => 0x00
  | .nop => 0xEA
  | .tax => 0xAA
  | .txa => 0x8A
  | .tay => 0xA8
  | .tya => 0x98
  | .tsx => 0xBA
  | .txs => 0x9A
  | .sec => 0x38
  | .clc => 0x18
  | .sed => 0xF8
  | .cld => 0xD8
  | .sei => 0x78
  | .cli => 0x58
  | .clv => 0xB8

/-- The operand bytes of a mode (R61): one field byte, or an address with its low byte first (R41). -/
def Arg.bytes : Arg → List Byte
  | .implied | .accumulator => []
  | .immediate b | .zeropage b | .zeropageX b | .zeropageY b
  | .indirectX b | .indirectY b | .relative b => [b]
  | .absolute w | .absoluteX w | .absoluteY w | .indirect w => [lo w, hi w]

/-- The encoder: the opcode byte, then the operand bytes (R60). -/
def encode (i : Instr) : List Byte := i.opcode :: i.arg.bytes

/-- R84: the displacement byte of a branch at `p` to `target`, `dd = target - (p + 2)` as a signed
byte; a target outside -128..+127 of `p + 2` cannot be encoded. -/
def encodeRelative (p target : Word) : Option Byte :=
  let d := (target - (p + 2)).toInt
  if -128 ≤ d ∧ d ≤ 127 then some (BitVec.ofInt 8 d) else none

/-- Byte `k` of a number whose bit 0 is bit 0 of the first byte (opcode_table.json's numbering). -/
def tableByte (w k : Nat) : Byte := BitVec.ofNat 8 (w >>> (8 * k))

/-- The bytes of an instruction word of `nbits` bits, as memory holds them: the longest instruction
is 3 bytes, and every bit from `nbits` up is 0. -/
def tableBytes (nbits w : Nat) : List Byte :=
  let v := w % 2 ^ nbits
  [tableByte v 0, tableByte v 1, tableByte v 2]

/-- The instruction the decoder reads from an instruction word numbered as the opcode table
numbers it; `none` where the decoder rejects. -/
def decodeTableWord (nbits w : Nat) : Option Instr :=
  match decode (tableBytes nbits w) with
  | .ok (i, _) => some i
  | .error _ => none

end Sys2Proof
end

