-- ==== Sys2Proof/Machine/Fetch.lean ====
section
/-! DEFINITION. Instruction fetch (30_encoding.md R62, R90): the bytes at PC, modulo 65536, read from
the one memory at the moment of the fetch (20_memory.md R53). -/

namespace Sys2Proof.Machine

/-- The three bytes at PC, PC + 1 and PC + 2: as many as the longest instruction has.  Reading more
bytes than the instruction has is not observable, since a read changes nothing (R46). -/
def fetchBytes (s : State) : List Byte :=
  [s.readByte s.pc, s.readByte (s.pc + 1), s.readByte (s.pc + 2)]

/-- The instruction at PC, if its opcode byte is defined. -/
def fetchInstr (s : State) : Option Instr :=
  match decode (fetchBytes s) with
  | .ok (i, _) => some i
  | .error _ => none

/-- R62: PC after the opcode and the operand bytes are fetched, `p +16 length`. -/
def advancePC (i : Instr) (s : State) : State := s.setPC (s.pc + BitVec.ofNat 16 i.length)

/-- Store bytes at consecutive addresses modulo 65536, as a host's repeated `write_byte` does. -/
def storeBytes (a : Word) : List Byte → State → State
  | [], s => s
  | b :: bs, s => storeBytes (a + 1) bs (s.writeByte a b)

end Sys2Proof.Machine
end

