-- ==== Sys2Proof/Machine/Step.lean ====
section
/-! DEFINITION. The dispatcher: one step (30_encoding.md R90 to R92).  The opcode byte is tested
before PC moves (90_conflicts.md C4). -/

namespace Sys2Proof.Machine

/-- R90: `step`. -/
def step (s : State) : Host.Outcome State Fault Refusal :=
  if s.running then
    match fetchInstr s with
    | none => decodeErrorAt s
    | some i => exec i (advancePC i s)
  else stepHalted s

/-- The state with an instruction word (numbered as the opcode table numbers it) stored at PC, where
`step` fetches its next instruction; the block is made to run. -/
def State.withFetchWord (s : State) (nbits w : Nat) : State :=
  (storeBytes s.pc (tableBytes nbits w) s).setRunning true

end Sys2Proof.Machine
end

