-- ==== Sys2Proof/Machine/HostPort.lean ====
section
/-! DEFINITION. The host's calls beside `step` (00_scope.md R4, 60_exceptions.md R234).  `read_byte` is
`State.readByte`, `write_byte` is `State.writeByte` (R52), `flags_as_byte` is `pack` of the flags and
`flags_from_byte` is `unpack` (R30, R31).  The host may also write any state element between steps
(D12): that is a record update. -/

namespace Sys2Proof.Machine

/-- R240: `reset(state)`.  Memory is not touched. -/
def resetState (s : State) : State := { State.reset with mem := s.mem }

/-- The memory that holds `f k` at every address `k` below `n`. -/
def fillMemory (f : Nat → Byte) : Nat → Memory
  | 0 => []
  | n + 1 => (fillMemory f n).write n (f n)

/-- R241, D11: creation; the state after reset, with memory holding `mem0`. -/
def createState (mem0 : Word → Byte) : State :=
  { State.reset with mem := fillMemory (fun k => mem0 (BitVec.ofNat 16 k)) Config.memorySize }

/-- R30: `flags_as_byte`. -/
def flagsAsByte (s : State) : Byte := pack s.flags

/-- R242: copy a program image at an origin and make PC name its first instruction. -/
def loadProgram (origin : Word) (image : List Byte) (s : State) : State :=
  (storeBytes origin image s).setPC origin

/-- How a bounded run ends (R251, R252). -/
inductive RunEnd where
  /-- `running` is false: the one final state. -/
  | halted (s : State)
  /-- A step returned an error in state `s`, which it left unchanged. -/
  | faulted (r : Fault) (s : State)
  /-- A step was refused in state `s`; no instruction is, so no run ends so. -/
  | refused (r : Refusal) (s : State)
  /-- The step bound is used up; a hang answers so at every bound. -/
  | outOfFuel (s : State)
  deriving DecidableEq, Repr

/-- R251: `run_until_halt`, with a bound on the steps (assumption log 13). -/
def runUntilHalt : Nat → State → RunEnd
  | 0, s => if s.running then .outOfFuel s else .halted s
  | k + 1, s =>
    if s.running then
      match step s with
      | .next t => runUntilHalt k t
      | .fault r => .faulted r s
      | .refused r => .refused r s
    else .halted s

end Sys2Proof.Machine
end

