-- ==== Sys2Proof/Safety.lean ====
section
/-! DEFINITION. The terms claims are stated in: the invariant of the machine, the ends of a run
(70_reset_and_hazards.md R252), and the bytes an instruction stores to. -/

namespace Sys2Proof.Machine

/-- The invariant of the machine: memory has its canonical form, and the unused bit holds 1 (R33). -/
def State.Inv (s : State) : Prop := s.mem.wf = true ∧ s.flags.u = true

/-- R252: the only final states are the halted ones. -/
def State.Final (s : State) : Prop := s.running = false

/-- R220: a safe run meets no undefined opcode: the next step raises no fault. -/
def State.SafeStep (s : State) : Prop := ∀ r, step s ≠ .fault r

/-- The addresses an instruction stores to when it runs in `s` (20_memory.md R45): its effective
address for a store or a memory read-modify-write, the slot SP names for a push, two slots for JSR,
none for anything else. -/
def storedAddresses (i : Instr) (s : State) : List Word :=
  match i.mnemonic with
  | .sta | .stx | .sty | .inc | .dec | .asl | .lsr | .rol | .ror =>
    (effectiveAddress i.arg s).toList
  | .pha | .php => [stackAddr s.sp]
  | .jsr => [stackAddr s.sp, stackAddr (s.sp - 1)]
  | .lda | .ldx | .ldy | .ora | .and | .eor | .inx | .iny | .dex | .dey
  | .adc | .sbc | .cmp | .cpx | .cpy | .bit
  | .bcc | .bcs | .beq | .bmi | .bne | .bpl | .bvc | .bvs | .jmp | .rts
  | .pla | .plp | .rti | .brk | .nop | .tax | .txa | .tay | .tya | .tsx | .txs
  | .sec | .clc | .sed | .cld | .sei | .cli | .clv => []

/-- R29 over numbers: the flags with Z set exactly for 0 and N set exactly from 128 up. -/
def Flags.withZN (f : Flags) (v : Byte) : Flags :=
  { f with z := decide (v.toNat = 0), n := decide (128 ≤ v.toNat) }

/-- R7 `word(l, h)` over numbers: the 16-bit number whose low byte is `l` and high byte `h`. -/
def wordNat (l h : Byte) : Nat := l.toNat + 256 * h.toNat

/-- R81: the 105 undefined opcodes, as the spec lists them. -/
def undefinedOpcodes : List Byte := [
  0x02, 0x03, 0x04, 0x07, 0x0B, 0x0C, 0x0F, 0x12, 0x13, 0x14, 0x17, 0x1A, 0x1B, 0x1C, 0x1F,
  0x22, 0x23, 0x27, 0x2B, 0x2F, 0x32, 0x33, 0x34, 0x37, 0x3A, 0x3B, 0x3C, 0x3F, 0x42, 0x43,
  0x44, 0x47, 0x4B, 0x4F, 0x52, 0x53, 0x54, 0x57, 0x5A, 0x5B, 0x5C, 0x5F, 0x62, 0x63, 0x64,
  0x67, 0x6B, 0x6F, 0x72, 0x73, 0x74, 0x77, 0x7A, 0x7B, 0x7C, 0x7F, 0x80, 0x82, 0x83, 0x87,
  0x89, 0x8B, 0x8F, 0x92, 0x93, 0x97, 0x9B, 0x9C, 0x9E, 0x9F, 0xA3, 0xA7, 0xAB, 0xAF, 0xB2,
  0xB3, 0xB7, 0xBB, 0xBF, 0xC2, 0xC3, 0xC7, 0xCB, 0xCF, 0xD2, 0xD3, 0xD4, 0xD7, 0xDA, 0xDB,
  0xDC, 0xDF, 0xE2, 0xE3, 0xE7, 0xEB, 0xEF, 0xF2, 0xF3, 0xF4, 0xF7, 0xFA, 0xFB, 0xFC, 0xFF]

end Sys2Proof.Machine
end

