-- ==== Sys2Proof/WellFormed.lean ====
section
/-! DEFINITION. Well-formedness (30_encoding.md R77): a mnemonic has a meaning only in the modes its
row of the opcode table lists.  The lists below are taken from the Operands line of each rule of
files 40 to 49, not from the opcode table, so that the two can be held against each other.  Operand
fields are a Byte or a Word by type, so no value of theirs is out of range. -/

namespace Sys2Proof

/-- A mnemonic written in a mode, as an assembler line names it; it may be one no opcode encodes. -/
structure Form where
  mnemonic : Mnemonic
  mode : Mode
  deriving DecidableEq, Repr

/-- The eight modes of LDA, ORA, AND, EOR, ADC, SBC and CMP (R101, R110 to R112, R140, R141, R143). -/
def readModes : List Mode :=
  [.immediate, .zeropage, .zeropageX, .absolute, .absoluteX, .absoluteY, .indirectX, .indirectY]

/-- The modes a memory read-modify-write accepts (R120, R121, R130). -/
def modifyModes : List Mode := [.zeropage, .zeropageX, .absolute, .absoluteX]

/-- The modes each mnemonic accepts (R77). -/
def acceptedModes : Mnemonic → List Mode
  | .lda | .ora | .and | .eor | .adc | .sbc | .cmp => readModes
  | .ldx => [.immediate, .zeropage, .zeropageY, .absolute, .absoluteY]
  | .ldy => [.immediate, .zeropage, .zeropageX, .absolute, .absoluteX]
  | .sta => [.zeropage, .zeropageX, .absolute, .absoluteX, .absoluteY, .indirectX, .indirectY]
  | .stx => [.zeropage, .zeropageY, .absolute]
  | .sty => [.zeropage, .zeropageX, .absolute]
  | .inc | .dec => modifyModes
  | .asl | .lsr | .rol | .ror => .accumulator :: modifyModes
  | .cpx | .cpy => [.immediate, .zeropage, .absolute]
  | .bit => [.zeropage, .absolute]
  | .bcc | .bcs | .beq | .bmi | .bne | .bpl | .bvc | .bvs => [.relative]
  | .jmp => [.absolute, .indirect]
  | .jsr => [.absolute]
  | .inx | .iny | .dex | .dey | .rts | .pha | .pla | .php | .plp | .rti | .brk | .nop
  | .tax | .txa | .tay | .tya | .tsx | .txs
  | .sec | .clc | .sed | .cld | .sei | .cli | .clv => [.implied]

/-- R77: the form is one the mnemonic accepts. -/
def Form.wellFormed (f : Form) : Bool := (acceptedModes f.mnemonic).contains f.mode

/-- The form of an instruction. -/
def Instr.form (i : Instr) : Form := ⟨i.mnemonic, i.mode⟩

/-- An instruction is well-formed when its form is. -/
def Instr.wellFormed (i : Instr) : Bool := i.form.wellFormed

end Sys2Proof
end

