-- ==== Sys2Proof/Certificates/Slice0/Obligations.lean ====
section
/-! DEFINITION. The statements for the provers, file by file of the spec's rules.  A result statement
gives the whole next state as the old one with the elements that change, so it is the completion
statement and part of the frame of the forms it names.  When `exec` runs, PC lies past the
instruction (30_encoding.md R62); `StepRunsDecodedInstruction` carries them to `step`. -/

open Sys2Proof Sys2Proof.Machine

/-! ### Reset and creation -/

/-- R240: `reset`, called in any state, sets every element but memory. -/
def Obligations.ResetSetsEveryElementButMemory : Prop :=
  ∀ s : State,
    (resetState s).a = 0 ∧ (resetState s).x = 0 ∧ (resetState s).y = 0 ∧ (resetState s).pc = 0 ∧
    (resetState s).sp = 0xFF ∧
    (resetState s).flags =
      { c := false, z := false, i := false, d := false, b := false, u := true, v := false, n := false } ∧
    (resetState s).running = true ∧ (resetState s).mem = s.mem ∧
    State.reset = { resetState s with mem := State.reset.mem }

/-- R241 with the spec's decision D11: the memory at creation is the given `mem0`, every other
element is as after reset.  That memory is held in canonical form is the model's (log 1). -/
def Obligations.CreationHoldsTheGivenMemory : Prop :=
  ∀ (mem0 : Word → Byte),
    (∀ a, (createState mem0).readByte a = mem0 a) ∧ (createState mem0).Inv ∧
    resetState (createState mem0) = createState mem0 ∧ createState (fun _ => 0) = State.reset

/-- The invariant of `StepKeepsInvariant` holds at reset. -/
def Obligations.InvariantHoldsAtReset : Prop := State.reset.Inv

/-! ### Rules of the whole machine -/

/-- The canonical form of memory (the model's, log 1) and U = 1 (R33) are kept by every step. -/
def Obligations.StepKeepsInvariant : Prop :=
  ∀ s t : State, s.Inv → step s = .next t → t.Inv

/-- R33: no instruction and no step writes U, reset and creation set it, and the status byte
serialises it as 1. -/
def Obligations.UnusedBitHoldsOne : Prop :=
  (∀ (i : Instr) (s t : State), exec i s = .next t → t.flags.u = s.flags.u) ∧
  (∀ s t : State, step s = .next t → t.flags.u = s.flags.u) ∧
  (∀ s : State, (resetState s).flags.u = true) ∧
  (∀ mem0, (createState mem0).flags.u = true) ∧
  (∀ f : Flags, (pack f).getLsbD 5 = true)

/-- R221: every defined instruction is total: it neither faults nor is refused, in any state. -/
def Obligations.EveryInstructionCompletes : Prop :=
  ∀ (i : Instr) (s : State), ∃ t, exec i s = .next t

/-- R90, R220, R221 with the spec's decisions D1 and D7 (logs 3, 8): a step faults exactly on an undefined
opcode in the running state, and is never refused.  In a halted state, where R92 gives no transition,
that a step neither faults nor is refused is the model's choice (log 2): it answers the state
unchanged, one of the two answers D8 allows. -/
def Obligations.StepFaultsExactlyOnUndefinedOpcode : Prop :=
  ∀ (s : State),
    (∀ r, step s = .fault r ↔
      s.running = true ∧ s.readByte s.pc ∈ undefinedOpcodes ∧
        r = .decodeError (s.readByte s.pc) s.pc) ∧
    (∀ r, step s ≠ .refused r)

/-- R91: running at reset; a step from running leads to halted exactly when it runs BRK; a decode
error leaves the block running (the run is bounded, log 13). -/
def Obligations.OnlyBrkHalts : Prop :=
  State.reset.running = true ∧
  (∀ (i : Instr) (s t : State), exec i s = .next t → s.running = true →
    (t.running = false ↔ i = .brk)) ∧
  (∀ s t : State, s.running = true → step s = .next t →
    (t.running = false ↔ fetchInstr s = some .brk)) ∧
  (∀ (k : Nat) (s t : State) (r : Fault), runUntilHalt k s = .faulted r t → t.running = true)

/-- R92 with D8: the halted state is final, the model's `step` answering it unchanged (log 2), and
reset leaves it. -/
def Obligations.HaltedStateIsFinal : Prop :=
  ∀ s : State, s.running = false → step s = .next s ∧ (resetState s).running = true

/-- R34 with D6: B becomes 1 by BRK and is changed by nothing else. -/
def Obligations.BreakFlagIsSetByBrkOnly : Prop :=
  ∀ (i : Instr) (s t : State), exec i s = .next t →
    t.flags.b = (s.flags.b || decide (i = .brk))

/-- The "written by" column of R32: a flag is unchanged by every instruction not listed for it. -/
def Obligations.FlagsAreWrittenOnlyByTheirInstructions : Prop :=
  ∀ (i : Instr) (s t : State), exec i s = .next t →
    (i.mnemonic ∉ [.adc, .sbc, .cmp, .cpx, .cpy, .asl, .lsr, .rol, .ror, .sec, .clc, .plp, .rti] →
      t.flags.c = s.flags.c) ∧
    (i.mnemonic ∉ [.lda, .ldx, .ldy, .ora, .and, .eor, .inc, .dec, .inx, .iny, .dex, .dey, .asl, .lsr,
        .rol, .ror, .adc, .sbc, .cmp, .cpx, .cpy, .bit, .pla, .plp, .rti, .tax, .txa, .tay, .tya, .tsx] →
      t.flags.z = s.flags.z ∧ t.flags.n = s.flags.n) ∧
    (i.mnemonic ∉ [.sei, .cli, .plp, .rti] → t.flags.i = s.flags.i) ∧
    (i.mnemonic ∉ [.sed, .cld, .plp, .rti] → t.flags.d = s.flags.d) ∧
    (i.mnemonic ∉ [.adc, .sbc, .bit, .clv, .plp, .rti] → t.flags.v = s.flags.v) ∧
    (i.mnemonic ∉ [.brk] → t.flags.b = s.flags.b) ∧
    t.flags.u = s.flags.u

/-- The "written by" columns of R21 and R22, and PC: a register is unchanged by every instruction not
listed for it. -/
def Obligations.RegistersAreWrittenOnlyByTheirInstructions : Prop :=
  ∀ (i : Instr) (s t : State), exec i s = .next t →
    (¬ (i.mnemonic ∈ [.lda, .ora, .and, .eor, .adc, .sbc, .pla, .txa, .tya] ∨
        i.mode = .accumulator) → t.a = s.a) ∧
    (i.mnemonic ∉ [.ldx, .inx, .dex, .tax, .tsx] → t.x = s.x) ∧
    (i.mnemonic ∉ [.ldy, .iny, .dey, .tay] → t.y = s.y) ∧
    (i.mnemonic ∉ [.jsr, .rts, .pha, .pla, .php, .plp, .rti, .txs] → t.sp = s.sp) ∧
    (i.mnemonic ∉ [.bcc, .bcs, .beq, .bmi, .bne, .bpl, .bvc, .bvs, .jmp, .jsr, .rts, .rti] →
      t.pc = s.pc) ∧
    (i.mnemonic ∉ [.brk] → t.running = s.running)

/-- The memory frame of every instruction (R45): each address it does not store to reads as before.
The stored addresses are computed by the meanings' own address functions; that a push writes the slot SP
names is the spec's decision D3 (log 4). -/
def Obligations.MemoryIsUnchangedOutsideStoredAddresses : Prop :=
  ∀ (i : Instr) (s t : State), exec i s = .next t →
    ∀ a, a ∉ storedAddresses i s → t.readByte a = s.readByte a

/-- R35, and R36 with D5: I and D control nothing.  A step from states that differ only in I and D
has the same outcome up to I and D, unless it is PHP, which pushes them. -/
def Obligations.InterruptDisableAndDecimalControlNothing : Prop :=
  ∀ (s : State) (vi vd : Bool), fetchInstr s ≠ some .php →
    (∀ t, step s = .next t → ∃ wi wd,
      step { s with flags := { s.flags with i := vi, d := vd } } =
        .next { t with flags := { t.flags with i := wi, d := wd } }) ∧
    (∀ r, step s = .fault r →
      step { s with flags := { s.flags with i := vi, d := vd } } = .fault r)

/-- R251, R252, with the model's step bound `k` (log 13): the loop of `run_until_halt`, case by case of
its start, and its ends.  A halted start is the end; a running start calls `step`, ends where that
faults and goes on from the state it gives.  An end as halted is final, an end as faulted is where the
next step raises that fault, and one more unit of the bound changes neither; an end with the bound used
up is still running; no run ends refused. -/
def Obligations.RunUntilHaltStopsAtHaltOrDecodeError : Prop :=
  ∀ (k : Nat) (s : State),
    (s.running = false → runUntilHalt k s = .halted s) ∧
    (s.running = true → runUntilHalt 0 s = .outOfFuel s) ∧
    (∀ r, s.running = true → step s = .fault r → runUntilHalt (k + 1) s = .faulted r s) ∧
    (∀ t, s.running = true → step s = .next t → runUntilHalt (k + 1) s = runUntilHalt k t) ∧
    (∀ t, runUntilHalt k s = .halted t → t.Final ∧ runUntilHalt (k + 1) s = .halted t) ∧
    (∀ r t, runUntilHalt k s = .faulted r t →
      step t = .fault r ∧ runUntilHalt (k + 1) s = .faulted r t) ∧
    (∀ t, runUntilHalt k s = .outOfFuel t → t.running = true) ∧
    (∀ r t, runUntilHalt k s ≠ .refused r t)

/-! ### Fetch, decode and encode -/

/-- R62, R90: in the running state a step runs the instruction decoded from the bytes at PC, with PC
moved past all the bytes the decoder took. -/
def Obligations.StepRunsDecodedInstruction : Prop :=
  ∀ (s : State) (i : Instr) (rest : List Byte), s.running = true →
    decode [s.readByte s.pc, s.readByte (s.pc + 1), s.readByte (s.pc + 2)] = .ok (i, rest) →
    step s = exec i { s with pc := s.pc + BitVec.ofNat 16 i.length } ∧ i.length + rest.length = 3

/-- R53: a fetch sees every earlier write.  Once an instruction's bytes are stored at PC (wrapping at
the top of memory), the next step runs it. -/
def Obligations.StepRunsTheInstructionStoredAtPC : Prop :=
  ∀ (i : Instr) (s : State), s.mem.wf = true → s.running = true →
    step (storeBytes s.pc (encode i) s) =
      exec i { storeBytes s.pc (encode i) s with pc := s.pc + BitVec.ofNat 16 i.length }

/-- R79, R81 with D1: an opcode byte has a row exactly when it is not one of the 105 undefined ones,
and without a row decoding rejects it by name. -/
def Obligations.UndefinedOpcodesAreRejected : Prop :=
  ∀ (op : Byte) (rest : List Byte),
    (op ∈ undefinedOpcodes → decode (op :: rest) = .error (.undefinedOpcode op)) ∧
    (op ∉ undefinedOpcodes → decode (op :: rest) ≠ .error (.undefinedOpcode op))

/-- R60: the opcode byte alone determines the form, so the mode and the length; the decoder takes as
many bytes as the length says. -/
def Obligations.OpcodeByteDeterminesFormAndLength : Prop :=
  ∀ (op : Byte) (bs bs' : List Byte) (i i' : Instr) (r r' : List Byte),
    decode (op :: bs) = .ok (i, r) → decode (op :: bs') = .ok (i', r') →
    i.form = i'.form ∧ i.length = i'.length ∧ (op :: bs).length = i.length + r.length ∧
      1 ≤ i.length ∧ i.length ≤ 3

/-- Decoding an encoded instruction, whatever bytes follow it, gives it back.  The opcode bytes are the
spec's decision D1 (log 3). -/
def Obligations.DecodeOfEncode : Prop :=
  ∀ (i : Instr) (rest : List Byte), decode (encode i ++ rest) = .ok (i, rest)

/-- A decoded byte string is the encoding of the instruction, followed by the rest (opcode bytes: D1,
log 3). -/
def Obligations.EncodeOfDecode : Prop :=
  ∀ (bs : List Byte) (i : Instr) (rest : List Byte),
    decode bs = .ok (i, rest) → bs = encode i ++ rest

/-- Words written out from the Encoding lines of the rules, one or more of each family. -/
def Obligations.DecodesTheSpecsWords : Prop :=
  decode [0xA9, 0x80] = .ok (.ldaImmediate 0x80, []) ∧
  decode [0x9D, 0xF0, 0xFF] = .ok (.staAbsoluteX 0xFFF0, []) ∧
  decode [0x49, 0xF0] = .ok (.eorImmediate 0xF0, []) ∧
  decode [0xCE, 0x00, 0x03] = .ok (.decAbsolute 0x0300, []) ∧
  decode [0x6A] = .ok (.rorAccumulator, []) ∧
  decode [0xE9, 0xB0] = .ok (.sbcImmediate 0xB0, []) ∧
  decode [0xD0, 0xFB] = .ok (.bne 0xFB, []) ∧
  decode [0x6C, 0xFF, 0x02] = .ok (.jmpIndirect 0x02FF, []) ∧
  decode [0x40] = .ok (.rti, []) ∧ decode [0x00] = .ok (.brk, []) ∧
  decode [0x9A] = .ok (.txs, []) ∧ decode [0xB8] = .ok (.clv, [])

/-- R84 with R76: a branch at `p` assembled for a target reaches it; every displacement byte is the
assembled form of the target it reaches. -/
def Obligations.AssembledBranchReachesItsTarget : Prop :=
  (∀ (p target : Word) (d : Byte) (s : State), encodeRelative p target = some d → s.pc = p + 2 →
    effectiveAddress (.relative d) s = some target) ∧
  (∀ (p : Word) (d : Byte), encodeRelative p (p + 2 + d.signExtend 16) = some d)

/-! ### Memory -/

/-- R46: a write stores its byte and changes nothing else; a read gives the byte stored. -/
def Obligations.ReadGivesTheByteStored : Prop :=
  ∀ (s : State) (a : Word) (v : Byte), s.mem.wf = true →
    (∀ b, (s.writeByte a v).readByte b = if b = a then v else s.readByte b) ∧
    { s.writeByte a v with mem := s.mem } = s

/-- The canonical form of the model's memory list (log 1): memories that read alike are equal data. -/
def Obligations.MemoriesThatReadAlikeAreEqual : Prop :=
  ∀ m m' : Memory, m.wf = true → m'.wf = true →
    (∀ a : Word, m.read a.toNat = m'.read a.toNat) → m = m'

/-- R42: a word read takes its low byte at `a` and its high byte at the next address modulo 65536. -/
def Obligations.WordReadIsLittleEndianAndWraps : Prop :=
  ∀ (s : State) (a : Word),
    (s.readWord a).toNat =
      wordNat (s.readByte a) (s.readByte (BitVec.ofNat 16 ((a.toNat + 1) % 65536)))

/-! ### Addressing modes -/

/-- R64, R65, R66: implied takes no operand byte and has no operand; accumulator takes none and its
shift operand is A; immediate is the next byte, literal. -/
def Obligations.OperandsWithoutAnAddress : Prop :=
  (∀ (i : Instr) (s : State), i.arg = .implied →
    encode i = [i.opcode] ∧ operandValue i.arg s = none ∧ shiftPlace i.arg s = none) ∧
  (∀ (i : Instr) (s : State), i.arg = .accumulator →
    encode i = [i.opcode] ∧ shiftPlace i.arg s = some .acc ∧ s.getPlace .acc = s.a ∧
      ∀ r, s.putPlace .acc r = { s with a := r }) ∧
  (∀ (i : Instr) (s : State) (v : Byte), i.arg = .immediate v →
    encode i = [i.opcode, v] ∧ operandValue i.arg s = some v)

/-- R67, R68, R69: the zero-page modes take the next byte; the index is added modulo 256; only LDX
and STX index the zero page by Y. -/
def Obligations.ZeroPageModesWrapInPageZero : Prop :=
  (∀ (i : Instr) (s : State) (z : Byte), i.arg = .zeropage z →
    encode i = [i.opcode, z] ∧
    (effectiveAddress i.arg s).map BitVec.toNat = some z.toNat) ∧
  (∀ (i : Instr) (s : State) (z : Byte), i.arg = .zeropageX z →
    encode i = [i.opcode, z] ∧
    (effectiveAddress i.arg s).map BitVec.toNat = some ((z.toNat + s.x.toNat) % 256)) ∧
  (∀ (i : Instr) (s : State) (z : Byte), i.arg = .zeropageY z →
    encode i = [i.opcode, z] ∧ (i.mnemonic = .ldx ∨ i.mnemonic = .stx) ∧
    (effectiveAddress i.arg s).map BitVec.toNat = some ((z.toNat + s.y.toNat) % 256))

/-- R70, R71, R72: the absolute modes take two bytes, low byte first; the index is added modulo
65536. -/
def Obligations.AbsoluteModesAddIn16Bits : Prop :=
  (∀ (i : Instr) (s : State) (w : Word), i.arg = .absolute w →
    (∃ l h : Byte, encode i = [i.opcode, l, h] ∧ w.toNat = wordNat l h) ∧
    (effectiveAddress i.arg s).map BitVec.toNat = some w.toNat) ∧
  (∀ (i : Instr) (s : State) (w : Word), i.arg = .absoluteX w →
    (∃ l h : Byte, encode i = [i.opcode, l, h] ∧ w.toNat = wordNat l h) ∧
    (effectiveAddress i.arg s).map BitVec.toNat = some ((w.toNat + s.x.toNat) % 65536)) ∧
  (∀ (i : Instr) (s : State) (w : Word), i.arg = .absoluteY w →
    (∃ l h : Byte, encode i = [i.opcode, l, h] ∧ w.toNat = wordNat l h) ∧
    (effectiveAddress i.arg s).map BitVec.toNat = some ((w.toNat + s.y.toNat) % 65536))

/-- R73: the pointer is (next byte + X) mod 256, and its second byte is read in the zero page. -/
def Obligations.IndirectXPointerWrapsInPageZero : Prop :=
  ∀ (i : Instr) (s : State) (z : Byte), i.arg = .indirectX z →
    encode i = [i.opcode, z] ∧
    (effectiveAddress i.arg s).map BitVec.toNat =
      some (wordNat (s.readByte (BitVec.ofNat 16 ((z.toNat + s.x.toNat) % 256)))
        (s.readByte (BitVec.ofNat 16 ((z.toNat + s.x.toNat + 1) % 256))))

/-- R74 with the spec's decision D4 (the pointer's second byte wraps in the zero page): Y is added to
the word read, modulo 65536. -/
def Obligations.IndirectYAddsYToThePointedWord : Prop :=
  ∀ (i : Instr) (s : State) (z : Byte), i.arg = .indirectY z →
    encode i = [i.opcode, z] ∧
    (effectiveAddress i.arg s).map BitVec.toNat =
      some ((wordNat (s.readByte (BitVec.ofNat 16 z.toNat))
        (s.readByte (BitVec.ofNat 16 ((z.toNat + 1) % 256))) + s.y.toNat) % 65536)

/-- R75: the indirect mode is JMP's only, and a pointer whose low byte is $FF takes its high byte from
pointer - $FF. -/
def Obligations.JumpIndirectHasThePageBoundaryBug : Prop :=
  ∀ (i : Instr) (s : State) (p : Word), i.arg = .indirect p →
    i.mnemonic = .jmp ∧ (∃ l h : Byte, encode i = [i.opcode, l, h] ∧ p.toNat = wordNat l h) ∧
    (effectiveAddress i.arg s).map BitVec.toNat =
      some (wordNat (s.readByte p)
        (s.readByte (BitVec.ofNat 16
          (if p.toNat % 256 = 255 then p.toNat - 255 else p.toNat + 1))))

/-- R76: the displacement byte is signed and is added to PC past it, modulo 65536. -/
def Obligations.RelativeTargetIsSigned : Prop :=
  ∀ (i : Instr) (s : State) (d : Byte), i.arg = .relative d →
    encode i = [i.opcode, d] ∧
    (effectiveAddress i.arg s).map (fun ea => (ea.toNat : Int)) =
      some (((s.pc.toNat : Int) + d.toInt) % 65536)

/-! ### Loads, stores, logic, increment and decrement -/

/-- R100: every load form reads its operand and writes one register and Z, N; every store form writes
its register to one byte and nothing else. -/
def Obligations.LoadsAndStoresFollowTheirContract : Prop :=
  ∀ (i : Instr) (s : State),
    (i.mnemonic = .lda → ∃ v, operandValue i.arg s = some v ∧
      exec i s = .next { s with a := v, flags := s.flags.withZN v }) ∧
    (i.mnemonic = .ldx → ∃ v, operandValue i.arg s = some v ∧
      exec i s = .next { s with x := v, flags := s.flags.withZN v }) ∧
    (i.mnemonic = .ldy → ∃ v, operandValue i.arg s = some v ∧
      exec i s = .next { s with y := v, flags := s.flags.withZN v }) ∧
    (i.mnemonic = .sta → ∃ ea, effectiveAddress i.arg s = some ea ∧
      exec i s = .next (s.writeByte ea s.a)) ∧
    (i.mnemonic = .stx → ∃ ea, effectiveAddress i.arg s = some ea ∧
      exec i s = .next (s.writeByte ea s.x)) ∧
    (i.mnemonic = .sty → ∃ ea, effectiveAddress i.arg s = some ea ∧
      exec i s = .next (s.writeByte ea s.y))

/-- R63: the value of an operand that has an address is the byte at that address. -/
def Obligations.OperandValueIsTheByteAtItsAddress : Prop :=
  ∀ (o : Arg) (s : State) (ea : Word), effectiveAddress o s = some ea →
    operandValue o s = some (s.readByte ea)

/-- R110, R111, R112: `A <- A op value`, Z and N from the result, bit by bit. -/
def Obligations.LogicWritesAAndZN : Prop :=
  ∀ (i : Instr) (s : State), i.mnemonic ∈ [.ora, .and, .eor] →
    ∃ m r, operandValue i.arg s = some m ∧
      (∀ k < 8, r.getLsbD k =
        (if i.mnemonic = .ora then s.a.getLsbD k || m.getLsbD k
         else if i.mnemonic = .and then s.a.getLsbD k && m.getLsbD k
         else s.a.getLsbD k != m.getLsbD k)) ∧
      exec i s = .next { s with a := r, flags := s.flags.withZN r }

/-- R120, R121: INC and DEC add or subtract 1 modulo 256 at their address; C and V are unchanged. -/
def Obligations.IncrementAndDecrementMemory : Prop :=
  ∀ (i : Instr) (s : State), i.mnemonic = .inc ∨ i.mnemonic = .dec →
    ∃ ea r, effectiveAddress i.arg s = some ea ∧
      r.toNat = ((s.readByte ea).toNat + (if i.mnemonic = .inc then 1 else 255)) % 256 ∧
      exec i s = .next { s.writeByte ea r with flags := s.flags.withZN r }

/-- R122 to R125: INX, INY, DEX and DEY add or subtract 1 modulo 256; C and V are unchanged. -/
def Obligations.IncrementAndDecrementRegisters : Prop :=
  ∀ s : State,
    (∃ r : Byte, r.toNat = (s.x.toNat + 1) % 256 ∧
      exec .inx s = .next { s with x := r, flags := s.flags.withZN r }) ∧
    (∃ r : Byte, r.toNat = (s.y.toNat + 1) % 256 ∧
      exec .iny s = .next { s with y := r, flags := s.flags.withZN r }) ∧
    (∃ r : Byte, r.toNat = (s.x.toNat + 255) % 256 ∧
      exec .dex s = .next { s with x := r, flags := s.flags.withZN r }) ∧
    (∃ r : Byte, r.toNat = (s.y.toNat + 255) % 256 ∧
      exec .dey s = .next { s with y := r, flags := s.flags.withZN r })

/-! ### Shifts, arithmetic, compares -/

/-- R130 to R134: a shift of A or of the byte at its address.  `v` is the operand, `r` the result, the
carry is the bit shifted out; the rotates bring the old C in. -/
def Obligations.ShiftsMoveOneBitThroughCarry : Prop :=
  ∀ (i : Instr) (s : State), i.mnemonic ∈ [.asl, .lsr, .rol, .ror] →
    ∃ (p : Place) (r : Byte) (c : Bool), shiftPlace i.arg s = some p ∧
      exec i s = .next { s.putPlace p r with flags := { s.flags.withZN r with c := c } } ∧
      (i.mnemonic = .asl →
        r.toNat + 256 * bitNat c = 2 * (s.getPlace p).toNat) ∧
      (i.mnemonic = .lsr →
        2 * r.toNat + bitNat c = (s.getPlace p).toNat) ∧
      (i.mnemonic = .rol →
        r.toNat + 256 * bitNat c = 2 * (s.getPlace p).toNat + bitNat s.flags.c) ∧
      (i.mnemonic = .ror →
        2 * r.toNat + bitNat c = (s.getPlace p).toNat + 256 * bitNat s.flags.c)

/-- R140, R147 (D5: D is not read): the sum over the integers is the result plus 256 times the carry;
V is set iff the operands share a sign and the result's differs. -/
def Obligations.AdcAddsWithCarry : Prop :=
  ∀ (i : Instr) (s : State), i.mnemonic = .adc →
    ∃ (m r : Byte) (c : Bool), operandValue i.arg s = some m ∧
      r.toNat + 256 * bitNat c = s.a.toNat + m.toNat + bitNat s.flags.c ∧
      exec i s = .next { s with
        a := r
        flags := { s.flags.withZN r with
          c := c, v := decide (s.a.msb = m.msb ∧ s.a.msb ≠ r.msb) } }

/-- R141, R147 (D5: D is not read): `A - m - (1 - C)` over the integers is the result less 256 when
there is a borrow, and C is "no borrow"; V is set iff the operands' signs differ and the result's
differs from A's. -/
def Obligations.SbcSubtractsWithBorrow : Prop :=
  ∀ (i : Instr) (s : State), i.mnemonic = .sbc →
    ∃ (m r : Byte) (c : Bool), operandValue i.arg s = some m ∧
      (r.toNat : Int) - 256 * bitNat (!c) = s.a.toNat - m.toNat - (1 - bitNat s.flags.c) ∧
      exec i s = .next { s with
        a := r
        flags := { s.flags.withZN r with
          c := c, v := decide (s.a.msb ≠ m.msb ∧ s.a.msb ≠ r.msb) } }

/-- The Glossary's two's-complement overflow (R11) is what ADC's and SBC's V reports (R140, R141, R148):
the signed result lies outside -128..127. -/
def Obligations.OverflowFlagIsSignedOverflow : Prop :=
  ∀ (i : Instr) (s t : State) (m : Byte), operandValue i.arg s = some m → exec i s = .next t →
    (i.mnemonic = .adc →
      (t.flags.v = true ↔ ¬ (-128 ≤ s.a.toInt + m.toInt + bitNat s.flags.c ∧
        s.a.toInt + m.toInt + bitNat s.flags.c ≤ 127))) ∧
    (i.mnemonic = .sbc →
      (t.flags.v = true ↔ ¬ (-128 ≤ s.a.toInt - m.toInt - (1 - bitNat s.flags.c) ∧
        s.a.toInt - m.toInt - (1 - bitNat s.flags.c) ≤ 127)))

/-- R141's corner case: SBC of `m` equals ADC of the complement of `m` in every output. -/
def Obligations.SbcEqualsAdcOfComplement : Prop :=
  ∀ (s : State) (m : Byte), exec (.sbcImmediate m) s = exec (.adcImmediate (m ^^^ 0xFF)) s

/-- R142: CMP, CPX and CPY set C, Z and N from the register and the operand, and change nothing else. -/
def Obligations.ComparesSetCarryZeroNegative : Prop :=
  ∀ (i : Instr) (s : State), i.mnemonic ∈ [.cmp, .cpx, .cpy] →
    ∃ (reg m : Byte), operandValue i.arg s = some m ∧
      reg = (if i.mnemonic = .cmp then s.a else if i.mnemonic = .cpx then s.x else s.y) ∧
      exec i s = .next { s with
        flags := { s.flags with
          c := decide (m.toNat ≤ reg.toNat), z := decide (reg = m),
          n := decide (128 ≤ (reg.toNat + (256 - m.toNat)) % 256) } }

/-- R146: BIT sets Z from `A & m`, N and V from bits 7 and 6 of the memory byte; A is unchanged. -/
def Obligations.BitTestsTheMemoryByte : Prop :=
  ∀ (i : Instr) (s : State), i.mnemonic = .bit →
    ∃ m, operandValue i.arg s = some m ∧
      exec i s = .next { s with
        flags := { s.flags with
          z := decide ((s.a &&& m).toNat = 0),
          n := decide (128 ≤ m.toNat), v := decide (64 ≤ m.toNat % 128) } }

/-! ### Branches, jumps, subroutines -/

/-- R160 to R168: each branch goes to the target of relative mode exactly when its flag test holds, and
else leaves PC past the branch; it writes nothing but PC. -/
def Obligations.BranchesFollowTheirFlag : Prop :=
  ∀ (i : Instr) (s : State) (d : Byte), i.arg = .relative d →
    ∃ target test, effectiveAddress i.arg s = some target ∧
      (i.mnemonic, test) ∈ [(.bcc, !s.flags.c), (.bcs, s.flags.c), (.beq, s.flags.z),
        (.bmi, s.flags.n), (.bne, !s.flags.z), (.bpl, !s.flags.n), (.bvc, !s.flags.v),
        (.bvs, s.flags.v)] ∧
      exec i s = .next { s with pc := if test then target else s.pc }

/-- R169: JMP sets PC to its effective address and writes nothing else. -/
def Obligations.JumpSetsPC : Prop :=
  ∀ (i : Instr) (s : State), i.mnemonic = .jmp →
    ∃ ea, effectiveAddress i.arg s = some ea ∧ exec i s = .next { s with pc := ea }

/-- R170, with push order D3: JSR stores PC - 1 (the address of its own last byte), its high byte at
$0100 + SP and its low byte at the slot below modulo 256, drops SP by 2 and jumps. -/
def Obligations.JsrPushesTheAddressOfItsLastByte : Prop :=
  ∀ (s : State) (w : Word), ∃ l h : Byte,
    wordNat l h = (s.pc.toNat + 65535) % 65536 ∧
    exec (.jsr w) s = .next
      { (s.writeByte (BitVec.ofNat 16 (256 + s.sp.toNat)) h).writeByte
          (BitVec.ofNat 16 (256 + (s.sp.toNat + 255) % 256)) l with
        sp := BitVec.ofNat 8 (s.sp.toNat + 254), pc := w }

/-- R171, with pop order D3: RTS reads a little-endian word above SP, sets PC to it plus 1, and raises
SP by 2. -/
def Obligations.RtsReturnsPastThePoppedWord : Prop :=
  ∀ s : State,
    exec .rts s = .next { s with
      sp := BitVec.ofNat 8 (s.sp.toNat + 2)
      pc := BitVec.ofNat 16
        (wordNat (s.readByte (BitVec.ofNat 16 (256 + (s.sp.toNat + 1) % 256)))
          (s.readByte (BitVec.ofNat 16 (256 + (s.sp.toNat + 2) % 256))) + 1) }

/-- R171 with R170 (push order D3): an RTS after a JSR, whatever PC it is fetched at, returns past the
JSR and restores SP at every value of SP, the wrap included. -/
def Obligations.RtsAfterJsrRestoresPCAndSP : Prop :=
  ∀ (s t : State) (w p : Word), s.mem.wf = true → exec (.jsr w) s = .next t →
    exec .rts { t with pc := p } = .next { t with pc := s.pc, sp := s.sp }

/-! ### Stack and flags -/

/-- R30: the layout of the status byte; bits 4 and 5 are 1 whatever B and U hold. -/
def Obligations.StatusByteLayout : Prop :=
  ∀ f : Flags,
    (pack f).toNat = bitNat f.c + 2 * bitNat f.z + 4 * bitNat f.i + 8 * bitNat f.d + 16 + 32
      + 64 * bitNat f.v + 128 * bitNat f.n

/-- R180, R182, with push order D3: PHA and PHP store A or the status byte at $0100 + SP and drop SP by
1 modulo 256; no flag is written. -/
def Obligations.PushesStoreAtTheStackPointer : Prop :=
  ∀ s : State,
    exec .pha s = .next { s.writeByte (BitVec.ofNat 16 (256 + s.sp.toNat)) s.a with
      sp := BitVec.ofNat 8 (s.sp.toNat + 255) } ∧
    exec .php s = .next { s.writeByte (BitVec.ofNat 16 (256 + s.sp.toNat)) (flagsAsByte s) with
      sp := BitVec.ofNat 8 (s.sp.toNat + 255) }

/-- R181, R183, with pop order D3 and B by D6: PLA and PLP read the slot above SP; PLA sets A, Z and N;
PLP sets the six semantic flags and leaves B and U. -/
def Obligations.PullsReadAboveTheStackPointer : Prop :=
  ∀ s : State, ∃ v : Byte, v = s.readByte (BitVec.ofNat 16 (256 + (s.sp.toNat + 1) % 256)) ∧
    exec .pla s = .next { s with
      sp := BitVec.ofNat 8 (s.sp.toNat + 1), a := v, flags := s.flags.withZN v } ∧
    exec .plp s = .next { s with
      sp := BitVec.ofNat 8 (s.sp.toNat + 1)
      flags := { s.flags with
        c := decide (v.toNat % 2 = 1), z := decide (v.toNat / 2 % 2 = 1),
        i := decide (v.toNat / 4 % 2 = 1), d := decide (v.toNat / 8 % 2 = 1),
        v := decide (v.toNat / 64 % 2 = 1), n := decide (v.toNat / 128 % 2 = 1) } }

/-- R184, with pop order D3 and B by D6: RTI pops the status byte, then PC low byte first with no +1,
and raises SP by 3. -/
def Obligations.RtiRestoresFlagsAndPC : Prop :=
  ∀ s : State, ∃ v : Byte, v = s.readByte (BitVec.ofNat 16 (256 + (s.sp.toNat + 1) % 256)) ∧
    exec .rti s = .next { s with
      sp := BitVec.ofNat 8 (s.sp.toNat + 3)
      flags := { s.flags with
        c := decide (v.toNat % 2 = 1), z := decide (v.toNat / 2 % 2 = 1),
        i := decide (v.toNat / 4 % 2 = 1), d := decide (v.toNat / 8 % 2 = 1),
        v := decide (v.toNat / 64 % 2 = 1), n := decide (v.toNat / 128 % 2 = 1) }
      pc := BitVec.ofNat 16
        (wordNat (s.readByte (BitVec.ofNat 16 (256 + (s.sp.toNat + 2) % 256)))
          (s.readByte (BitVec.ofNat 16 (256 + (s.sp.toNat + 3) % 256)))) }

/-- R183's corner case (D3, D6): PLP after PHP, whatever PC it is fetched at, leaves every flag as it was, B
included, and restores SP. -/
def Obligations.PlpAfterPhpRestoresEveryFlag : Prop :=
  ∀ (s t : State) (f : Flags) (p : Word), s.mem.wf = true → exec .php s = .next t →
    f.b = s.flags.b → f.u = s.flags.u →
    exec .plp { t with flags := f, pc := p } =
      .next { t with flags := s.flags, sp := s.sp, pc := p }

/-- R27: PopWord after PushWord gives the word back and restores SP, at every value of SP. -/
def Obligations.PopWordAfterPushWord : Prop :=
  ∀ (s : State) (w : Word), s.mem.wf = true →
    (s.pushWord w).popWord = w ∧ (s.pushWord w).poppedWord = { s.pushWord w with sp := s.sp }

/-! ### Transfers, flag instructions, BRK and NOP -/

/-- R200 to R205: each transfer copies its source; all but TXS set Z and N from the value moved. -/
def Obligations.TransfersCopyRegisters : Prop :=
  ∀ s : State,
    exec .tax s = .next { s with x := s.a, flags := s.flags.withZN s.a } ∧
    exec .txa s = .next { s with a := s.x, flags := s.flags.withZN s.x } ∧
    exec .tay s = .next { s with y := s.a, flags := s.flags.withZN s.a } ∧
    exec .tya s = .next { s with a := s.y, flags := s.flags.withZN s.y } ∧
    exec .tsx s = .next { s with x := s.sp, flags := s.flags.withZN s.sp } ∧
    exec .txs s = .next { s with sp := s.x }

/-- R210 to R216: each flag instruction writes exactly one flag. -/
def Obligations.FlagInstructionsWriteOneFlag : Prop :=
  ∀ s : State,
    exec .sec s = .next { s with flags := { s.flags with c := true } } ∧
    exec .clc s = .next { s with flags := { s.flags with c := false } } ∧
    exec .sed s = .next { s with flags := { s.flags with d := true } } ∧
    exec .cld s = .next { s with flags := { s.flags with d := false } } ∧
    exec .sei s = .next { s with flags := { s.flags with i := true } } ∧
    exec .cli s = .next { s with flags := { s.flags with i := false } } ∧
    exec .clv s = .next { s with flags := { s.flags with v := false } }

/-- R190 with D10 (one byte, no push), R191 with D9: BRK sets B and halts, NOP does nothing. -/
def Obligations.BrkHaltsAndNopDoesNothing : Prop :=
  ∀ s : State,
    exec .brk s = .next { s with flags := { s.flags with b := true }, running := false } ∧
    exec .nop s = .next s
end

