-- ==== Sys2Proof/Laws/Decode.lean ====
section
/-! SUPPORT. The opcode table's laws: what a lookup finds is a row of the table, every row encodes as
its own opcode followed by its operand bytes, and how `decode` uses the lookup. -/

namespace Sys2Proof

open Machine (lo hi)

theorem decode_of_undefined {op : Byte} (h : lookupOpcode op = none) (rest : List Byte) :
    decode (op :: rest) = .error (.undefinedOpcode op) := by
  simp [decode, h]

theorem decode_of_defined {op : Byte} {b : Build} (h : lookupOpcode op = some b)
    (rest : List Byte) : decode (op :: rest) = finish op b rest := by
  simp [decode, h]

theorem row_of_lookup {op : Byte} {b : Build} (h : lookupOpcode op = some b) :
    ⟨op, b⟩ ∈ opcodeTable := by
  unfold lookupOpcode at h
  obtain ⟨row, hrow, rfl⟩ := Option.map_eq_some_iff.1 h
  have hop : row.opcode = op := by simpa using List.find?_some hrow
  exact hop ▸ List.mem_of_find?_eq_some hrow

/-- A row agrees with the encoder: what it builds encodes as its opcode and its operand bytes. -/
def OpcodeRow.Encodes (row : OpcodeRow) : Prop :=
  match row.build with
  | .done i => encode i = [row.opcode]
  | .byte f => ∀ b, encode (f b) = [row.opcode, b]
  | .word f => ∀ w, encode (f w) = [row.opcode, lo w, hi w]

/-- Every row of the table agrees with the encoder. -/
theorem opcodeTable_encodes : ∀ row ∈ opcodeTable, row.Encodes := by
  simp only [opcodeTable, List.forall_mem_append]
  refine ⟨⟨⟨⟨⟨⟨⟨⟨⟨⟨⟨⟨⟨⟨⟨?_, ?_⟩, ?_⟩, ?_⟩, ?_⟩, ?_⟩, ?_⟩, ?_⟩, ?_⟩, ?_⟩, ?_⟩, ?_⟩, ?_⟩, ?_⟩, ?_⟩, ?_⟩
  all_goals
    simp only [opcodeRow0, opcodeRow1, opcodeRow2, opcodeRow3, opcodeRow4, opcodeRow5, opcodeRow6,
      opcodeRow7, opcodeRow8, opcodeRow9, opcodeRowA, opcodeRowB, opcodeRowC, opcodeRowD, opcodeRowE,
      opcodeRowF, List.forall_mem_cons]
    repeat (refine ⟨?_, ?_⟩; · first | rfl | exact fun _ => rfl)
    simp

end Sys2Proof
end

