-- ==== Sys2Proof/Laws/State.lean ====
section
/-! SUPPORT. One lemma per field per update of the state, so that no later proof unfolds a record
update; and what each update leaves readable in memory. -/

namespace Sys2Proof.Machine

variable (s : State)

/-! ### `setA` -/

@[simp] theorem State.setA_a (v : Byte) : (s.setA v).a = v := rfl
@[simp] theorem State.setA_x (v : Byte) : (s.setA v).x = s.x := rfl
@[simp] theorem State.setA_y (v : Byte) : (s.setA v).y = s.y := rfl
@[simp] theorem State.setA_sp (v : Byte) : (s.setA v).sp = s.sp := rfl
@[simp] theorem State.setA_pc (v : Byte) : (s.setA v).pc = s.pc := rfl
@[simp] theorem State.setA_flags (v : Byte) : (s.setA v).flags = s.flags := rfl
@[simp] theorem State.setA_mem (v : Byte) : (s.setA v).mem = s.mem := rfl
@[simp] theorem State.setA_running (v : Byte) : (s.setA v).running = s.running := rfl

/-! ### `setX` -/

@[simp] theorem State.setX_a (v : Byte) : (s.setX v).a = s.a := rfl
@[simp] theorem State.setX_x (v : Byte) : (s.setX v).x = v := rfl
@[simp] theorem State.setX_y (v : Byte) : (s.setX v).y = s.y := rfl
@[simp] theorem State.setX_sp (v : Byte) : (s.setX v).sp = s.sp := rfl
@[simp] theorem State.setX_pc (v : Byte) : (s.setX v).pc = s.pc := rfl
@[simp] theorem State.setX_flags (v : Byte) : (s.setX v).flags = s.flags := rfl
@[simp] theorem State.setX_mem (v : Byte) : (s.setX v).mem = s.mem := rfl
@[simp] theorem State.setX_running (v : Byte) : (s.setX v).running = s.running := rfl

/-! ### `setY` -/

@[simp] theorem State.setY_a (v : Byte) : (s.setY v).a = s.a := rfl
@[simp] theorem State.setY_x (v : Byte) : (s.setY v).x = s.x := rfl
@[simp] theorem State.setY_y (v : Byte) : (s.setY v).y = v := rfl
@[simp] theorem State.setY_sp (v : Byte) : (s.setY v).sp = s.sp := rfl
@[simp] theorem State.setY_pc (v : Byte) : (s.setY v).pc = s.pc := rfl
@[simp] theorem State.setY_flags (v : Byte) : (s.setY v).flags = s.flags := rfl
@[simp] theorem State.setY_mem (v : Byte) : (s.setY v).mem = s.mem := rfl
@[simp] theorem State.setY_running (v : Byte) : (s.setY v).running = s.running := rfl

/-! ### `setSP` -/

@[simp] theorem State.setSP_a (v : Byte) : (s.setSP v).a = s.a := rfl
@[simp] theorem State.setSP_x (v : Byte) : (s.setSP v).x = s.x := rfl
@[simp] theorem State.setSP_y (v : Byte) : (s.setSP v).y = s.y := rfl
@[simp] theorem State.setSP_sp (v : Byte) : (s.setSP v).sp = v := rfl
@[simp] theorem State.setSP_pc (v : Byte) : (s.setSP v).pc = s.pc := rfl
@[simp] theorem State.setSP_flags (v : Byte) : (s.setSP v).flags = s.flags := rfl
@[simp] theorem State.setSP_mem (v : Byte) : (s.setSP v).mem = s.mem := rfl
@[simp] theorem State.setSP_running (v : Byte) : (s.setSP v).running = s.running := rfl

/-! ### `setPC` -/

@[simp] theorem State.setPC_a (v : Word) : (s.setPC v).a = s.a := rfl
@[simp] theorem State.setPC_x (v : Word) : (s.setPC v).x = s.x := rfl
@[simp] theorem State.setPC_y (v : Word) : (s.setPC v).y = s.y := rfl
@[simp] theorem State.setPC_sp (v : Word) : (s.setPC v).sp = s.sp := rfl
@[simp] theorem State.setPC_pc (v : Word) : (s.setPC v).pc = v := rfl
@[simp] theorem State.setPC_flags (v : Word) : (s.setPC v).flags = s.flags := rfl
@[simp] theorem State.setPC_mem (v : Word) : (s.setPC v).mem = s.mem := rfl
@[simp] theorem State.setPC_running (v : Word) : (s.setPC v).running = s.running := rfl

/-! ### `setFlags` -/

@[simp] theorem State.setFlags_a (v : Flags) : (s.setFlags v).a = s.a := rfl
@[simp] theorem State.setFlags_x (v : Flags) : (s.setFlags v).x = s.x := rfl
@[simp] theorem State.setFlags_y (v : Flags) : (s.setFlags v).y = s.y := rfl
@[simp] theorem State.setFlags_sp (v : Flags) : (s.setFlags v).sp = s.sp := rfl
@[simp] theorem State.setFlags_pc (v : Flags) : (s.setFlags v).pc = s.pc := rfl
@[simp] theorem State.setFlags_flags (v : Flags) : (s.setFlags v).flags = v := rfl
@[simp] theorem State.setFlags_mem (v : Flags) : (s.setFlags v).mem = s.mem := rfl
@[simp] theorem State.setFlags_running (v : Flags) : (s.setFlags v).running = s.running := rfl

/-! ### `setMem` -/

@[simp] theorem State.setMem_a (v : Memory) : (s.setMem v).a = s.a := rfl
@[simp] theorem State.setMem_x (v : Memory) : (s.setMem v).x = s.x := rfl
@[simp] theorem State.setMem_y (v : Memory) : (s.setMem v).y = s.y := rfl
@[simp] theorem State.setMem_sp (v : Memory) : (s.setMem v).sp = s.sp := rfl
@[simp] theorem State.setMem_pc (v : Memory) : (s.setMem v).pc = s.pc := rfl
@[simp] theorem State.setMem_flags (v : Memory) : (s.setMem v).flags = s.flags := rfl
@[simp] theorem State.setMem_mem (v : Memory) : (s.setMem v).mem = v := rfl
@[simp] theorem State.setMem_running (v : Memory) : (s.setMem v).running = s.running := rfl

/-! ### `setRunning` -/

@[simp] theorem State.setRunning_a (v : Bool) : (s.setRunning v).a = s.a := rfl
@[simp] theorem State.setRunning_x (v : Bool) : (s.setRunning v).x = s.x := rfl
@[simp] theorem State.setRunning_y (v : Bool) : (s.setRunning v).y = s.y := rfl
@[simp] theorem State.setRunning_sp (v : Bool) : (s.setRunning v).sp = s.sp := rfl
@[simp] theorem State.setRunning_pc (v : Bool) : (s.setRunning v).pc = s.pc := rfl
@[simp] theorem State.setRunning_flags (v : Bool) : (s.setRunning v).flags = s.flags := rfl
@[simp] theorem State.setRunning_mem (v : Bool) : (s.setRunning v).mem = s.mem := rfl
@[simp] theorem State.setRunning_running (v : Bool) : (s.setRunning v).running = v := rfl

/-! ### `setZN` -/

@[simp] theorem State.setZN_a (v : Byte) : (s.setZN v).a = s.a := rfl
@[simp] theorem State.setZN_x (v : Byte) : (s.setZN v).x = s.x := rfl
@[simp] theorem State.setZN_y (v : Byte) : (s.setZN v).y = s.y := rfl
@[simp] theorem State.setZN_sp (v : Byte) : (s.setZN v).sp = s.sp := rfl
@[simp] theorem State.setZN_pc (v : Byte) : (s.setZN v).pc = s.pc := rfl
@[simp] theorem State.setZN_flags (v : Byte) : (s.setZN v).flags = s.flags.setZN v := rfl
@[simp] theorem State.setZN_mem (v : Byte) : (s.setZN v).mem = s.mem := rfl
@[simp] theorem State.setZN_running (v : Byte) : (s.setZN v).running = s.running := rfl

/-! ### `setC` -/

@[simp] theorem State.setC_a (c : Bool) : (s.setC c).a = s.a := rfl
@[simp] theorem State.setC_x (c : Bool) : (s.setC c).x = s.x := rfl
@[simp] theorem State.setC_y (c : Bool) : (s.setC c).y = s.y := rfl
@[simp] theorem State.setC_sp (c : Bool) : (s.setC c).sp = s.sp := rfl
@[simp] theorem State.setC_pc (c : Bool) : (s.setC c).pc = s.pc := rfl
@[simp] theorem State.setC_flags (c : Bool) : (s.setC c).flags = { s.flags with c := c } := rfl
@[simp] theorem State.setC_mem (c : Bool) : (s.setC c).mem = s.mem := rfl
@[simp] theorem State.setC_running (c : Bool) : (s.setC c).running = s.running := rfl

/-! ### `writeByte` -/

@[simp] theorem State.writeByte_a (a : Word) (v : Byte) : (s.writeByte a v).a = s.a := rfl
@[simp] theorem State.writeByte_x (a : Word) (v : Byte) : (s.writeByte a v).x = s.x := rfl
@[simp] theorem State.writeByte_y (a : Word) (v : Byte) : (s.writeByte a v).y = s.y := rfl
@[simp] theorem State.writeByte_sp (a : Word) (v : Byte) : (s.writeByte a v).sp = s.sp := rfl
@[simp] theorem State.writeByte_pc (a : Word) (v : Byte) : (s.writeByte a v).pc = s.pc := rfl
@[simp] theorem State.writeByte_flags (a : Word) (v : Byte) : (s.writeByte a v).flags = s.flags := rfl
@[simp] theorem State.writeByte_mem (a : Word) (v : Byte) : (s.writeByte a v).mem = s.mem.write a.toNat v := rfl
@[simp] theorem State.writeByte_running (a : Word) (v : Byte) : (s.writeByte a v).running = s.running := rfl

/-! ### `push` -/

@[simp] theorem State.push_a (v : Byte) : (s.push v).a = s.a := rfl
@[simp] theorem State.push_x (v : Byte) : (s.push v).x = s.x := rfl
@[simp] theorem State.push_y (v : Byte) : (s.push v).y = s.y := rfl
@[simp] theorem State.push_sp (v : Byte) : (s.push v).sp = s.sp - 1 := rfl
@[simp] theorem State.push_pc (v : Byte) : (s.push v).pc = s.pc := rfl
@[simp] theorem State.push_flags (v : Byte) : (s.push v).flags = s.flags := rfl
@[simp] theorem State.push_mem (v : Byte) : (s.push v).mem = s.mem.write (stackAddr s.sp).toNat v := rfl
@[simp] theorem State.push_running (v : Byte) : (s.push v).running = s.running := rfl

/-! ### `popped` -/

@[simp] theorem State.popped_a : (s.popped).a = s.a := rfl
@[simp] theorem State.popped_x : (s.popped).x = s.x := rfl
@[simp] theorem State.popped_y : (s.popped).y = s.y := rfl
@[simp] theorem State.popped_sp : (s.popped).sp = s.sp + 1 := rfl
@[simp] theorem State.popped_pc : (s.popped).pc = s.pc := rfl
@[simp] theorem State.popped_flags : (s.popped).flags = s.flags := rfl
@[simp] theorem State.popped_mem : (s.popped).mem = s.mem := rfl
@[simp] theorem State.popped_running : (s.popped).running = s.running := rfl

/-! ### `halt` -/

@[simp] theorem State.halt_a : (s.halt).a = s.a := rfl
@[simp] theorem State.halt_x : (s.halt).x = s.x := rfl
@[simp] theorem State.halt_y : (s.halt).y = s.y := rfl
@[simp] theorem State.halt_sp : (s.halt).sp = s.sp := rfl
@[simp] theorem State.halt_pc : (s.halt).pc = s.pc := rfl
@[simp] theorem State.halt_flags : (s.halt).flags = { s.flags with b := true } := rfl
@[simp] theorem State.halt_mem : (s.halt).mem = s.mem := rfl
@[simp] theorem State.halt_running : (s.halt).running = false := rfl

/-! ### Fields of the flags -/

@[simp] theorem Flags.setZN_c (f : Flags) (w : Byte) : (f.setZN w).c = f.c := rfl
@[simp] theorem Flags.setZN_z (f : Flags) (w : Byte) : (f.setZN w).z = (w == 0) := rfl
@[simp] theorem Flags.setZN_i (f : Flags) (w : Byte) : (f.setZN w).i = f.i := rfl
@[simp] theorem Flags.setZN_d (f : Flags) (w : Byte) : (f.setZN w).d = f.d := rfl
@[simp] theorem Flags.setZN_b (f : Flags) (w : Byte) : (f.setZN w).b = f.b := rfl
@[simp] theorem Flags.setZN_u (f : Flags) (w : Byte) : (f.setZN w).u = f.u := rfl
@[simp] theorem Flags.setZN_v (f : Flags) (w : Byte) : (f.setZN w).v = f.v := rfl
@[simp] theorem Flags.setZN_n (f : Flags) (w : Byte) : (f.setZN w).n = w.getLsbD 7 := rfl
@[simp] theorem unpack_c (w : Byte) (f : Flags) : (unpack w f).c = w.getLsbD 0 := rfl
@[simp] theorem unpack_z (w : Byte) (f : Flags) : (unpack w f).z = w.getLsbD 1 := rfl
@[simp] theorem unpack_i (w : Byte) (f : Flags) : (unpack w f).i = w.getLsbD 2 := rfl
@[simp] theorem unpack_d (w : Byte) (f : Flags) : (unpack w f).d = w.getLsbD 3 := rfl
@[simp] theorem unpack_b (w : Byte) (f : Flags) : (unpack w f).b = f.b := rfl
@[simp] theorem unpack_u (w : Byte) (f : Flags) : (unpack w f).u = f.u := rfl
@[simp] theorem unpack_v (w : Byte) (f : Flags) : (unpack w f).v = w.getLsbD 6 := rfl
@[simp] theorem unpack_n (w : Byte) (f : Flags) : (unpack w f).n = w.getLsbD 7 := rfl

/-! ### Reads after updates that do not touch memory -/

@[simp] theorem State.readByte_setA (v : Byte) (a : Word) : (s.setA v).readByte a = s.readByte a := rfl
@[simp] theorem State.readByte_setX (v : Byte) (a : Word) : (s.setX v).readByte a = s.readByte a := rfl
@[simp] theorem State.readByte_setY (v : Byte) (a : Word) : (s.setY v).readByte a = s.readByte a := rfl
@[simp] theorem State.readByte_setSP (v : Byte) (a : Word) : (s.setSP v).readByte a = s.readByte a := rfl
@[simp] theorem State.readByte_setPC (v : Word) (a : Word) : (s.setPC v).readByte a = s.readByte a := rfl
@[simp] theorem State.readByte_setFlags (v : Flags) (a : Word) : (s.setFlags v).readByte a = s.readByte a := rfl
@[simp] theorem State.readByte_setRunning (v : Bool) (a : Word) : (s.setRunning v).readByte a = s.readByte a := rfl
@[simp] theorem State.readByte_setZN (v : Byte) (a : Word) : (s.setZN v).readByte a = s.readByte a := rfl
@[simp] theorem State.readByte_setC (c : Bool) (a : Word) : (s.setC c).readByte a = s.readByte a := rfl
@[simp] theorem State.readByte_popped (a : Word) : s.popped.readByte a = s.readByte a := rfl
@[simp] theorem State.readByte_halt (a : Word) : s.halt.readByte a = s.readByte a := rfl

end Sys2Proof.Machine
end

