-- ==== Sys2Proof/Laws/Memory.lean ====
section
/-! SUPPORT. The memory list: every operation keeps its canonical form, and a read after a write gives
the value written at that address and the old value at every other. -/

namespace Sys2Proof.Machine

theorem wfFrom_cons {low j : Nat} {u : Byte} {m : Memory} :
    wfFrom low ((j, u) :: m) = true ↔
      low ≤ j ∧ j < Config.memorySize ∧ u ≠ Config.unlistedByte ∧ wfFrom (j + 1) m = true := by
  simp [wfFrom, and_assoc]

theorem wfFrom_mono {low low' : Nat} {m : Memory} (h : wfFrom low m = true) (hle : low' ≤ low) :
    wfFrom low' m = true := by
  cases m with
  | nil => rfl
  | cons c m =>
    obtain ⟨j, u⟩ := c
    rw [wfFrom_cons] at h ⊢
    exact ⟨hle.trans h.1, h.2⟩

/-- Below its first cell a canonical list reads as unlisted. -/
theorem read_of_lt {low k : Nat} {m : Memory} (h : wfFrom low m = true) (hk : k < low) :
    m.read k = Config.unlistedByte := by
  induction m generalizing low with
  | nil => rfl
  | cons c m ih =>
    obtain ⟨j, u⟩ := c
    rw [wfFrom_cons] at h
    rw [Memory.read, if_neg (by omega)]
    exact ih h.2.2.2 (by omega)

theorem wfFrom_consCell {low k : Nat} {v : Byte} {m : Memory} (h : wfFrom (k + 1) m = true)
    (hlow : low ≤ k) (hk : k < Config.memorySize) : wfFrom low (consCell k v m) = true := by
  unfold consCell
  split
  · exact wfFrom_mono h (by omega)
  · exact wfFrom_cons.2 ⟨hlow, hk, ‹_›, h⟩

theorem wfFrom_write {low k : Nat} {v : Byte} {m : Memory} (h : wfFrom low m = true)
    (hlow : low ≤ k) (hk : k < Config.memorySize) : wfFrom low (m.write k v) = true := by
  induction m generalizing low with
  | nil => exact wfFrom_consCell rfl hlow hk
  | cons c m ih =>
    obtain ⟨j, u⟩ := c
    have hc := wfFrom_cons.1 h
    simp only [Memory.write]
    split
    · exact wfFrom_consCell (wfFrom_cons.2 ⟨by omega, hc.2⟩) hlow hk
    · split
      · exact wfFrom_consCell (wfFrom_mono hc.2.2.2 (by omega)) hlow hk
      · exact wfFrom_cons.2 ⟨hc.1, hc.2.1, hc.2.2.1, ih hc.2.2.2 (by omega)⟩

/-- A write keeps the canonical form. -/
theorem Memory.wf_write {m : Memory} (h : m.wf = true) {k : Nat} (hk : k < Config.memorySize)
    (v : Byte) : (m.write k v).wf = true :=
  wfFrom_write h (Nat.zero_le k) hk

theorem read_consCell_self {low k : Nat} {v : Byte} {m : Memory} (h : wfFrom low m = true)
    (hk : k < low) : Memory.read (consCell k v m) k = v := by
  unfold consCell
  split
  · rw [read_of_lt h hk]; exact Eq.symm ‹_›
  · simp [Memory.read]

theorem read_consCell_ne {k j : Nat} (hne : j ≠ k) (v : Byte) (m : Memory) :
    Memory.read (consCell k v m) j = m.read j := by
  unfold consCell
  split
  · rfl
  · rw [Memory.read, if_neg (Ne.symm hne)]

theorem read_write_self_from {low k : Nat} {v : Byte} {m : Memory} (h : wfFrom low m = true) :
    (m.write k v).read k = v := by
  induction m generalizing low with
  | nil => exact read_consCell_self (low := k + 1) rfl (by omega)
  | cons c m ih =>
    obtain ⟨j, u⟩ := c
    have hc := wfFrom_cons.1 h
    simp only [Memory.write]
    split
    · exact read_consCell_self (low := j) (wfFrom_cons.2 ⟨le_refl j, hc.2⟩) ‹_›
    · split
      · exact read_consCell_self hc.2.2.2 (by omega)
      · rw [Memory.read, if_neg (by omega)]
        exact ih hc.2.2.2

/-- The address written reads as the value written. -/
theorem Memory.read_write_self {m : Memory} (h : m.wf = true) (k : Nat) (v : Byte) :
    (m.write k v).read k = v :=
  read_write_self_from h

/-- Every other address reads as before, in any list. -/
theorem Memory.read_write_ne {k j : Nat} (hne : j ≠ k) (v : Byte) (m : Memory) :
    (m.write k v).read j = m.read j := by
  induction m with
  | nil => exact read_consCell_ne hne v []
  | cons c m ih =>
    obtain ⟨i, u⟩ := c
    simp only [Memory.write]
    split
    · exact read_consCell_ne hne v _
    · split
      · rw [read_consCell_ne hne, Memory.read, if_neg (by omega)]
      · simp only [Memory.read, ih]

theorem toNat_lt_memorySize (a : Word) : a.toNat < Config.memorySize := a.isLt

/-! ### Memory operations of the state -/

theorem State.writeByte_wf {s : State} (h : s.mem.wf = true) (a : Word) (v : Byte) :
    (s.writeByte a v).mem.wf = true :=
  Memory.wf_write h (toNat_lt_memorySize a) v

theorem State.readByte_writeByte_self {s : State} (h : s.mem.wf = true) (a : Word) (v : Byte) :
    (s.writeByte a v).readByte a = v :=
  Memory.read_write_self h a.toNat v

theorem State.readByte_writeByte_ne (s : State) {a b : Word} (hne : b ≠ a) (v : Byte) :
    (s.writeByte a v).readByte b = s.readByte b :=
  Memory.read_write_ne (fun h => hne (BitVec.eq_of_toNat_eq h)) v s.mem

theorem State.push_wf {s : State} (h : s.mem.wf = true) (v : Byte) : (s.push v).mem.wf = true :=
  State.writeByte_wf h (stackAddr s.sp) v

theorem State.pushWord_wf {s : State} (h : s.mem.wf = true) (w : Word) :
    (s.pushWord w).mem.wf = true :=
  State.push_wf (State.push_wf h (hi w)) (lo w)

theorem storeBytes_wf {s : State} (h : s.mem.wf = true) (a : Word) (bs : List Byte) :
    (storeBytes a bs s).mem.wf = true := by
  induction bs generalizing s a with
  | nil => exact h
  | cons b bs ih => exact ih (State.writeByte_wf h a b) (a + 1)

theorem fillMemory_wf (f : Nat → Byte) {n : Nat} (hn : n ≤ Config.memorySize) :
    (fillMemory f n).wf = true := by
  induction n with
  | zero => rfl
  | succ n ih => exact Memory.wf_write (ih (by omega)) (by omega) (f n)

/-- A filled memory reads as the function below its bound. -/
theorem read_fillMemory (f : Nat → Byte) {n k : Nat} (hn : n ≤ Config.memorySize) (hk : k < n) :
    (fillMemory f n).read k = f k := by
  induction n with
  | zero => omega
  | succ n ih =>
    simp only [fillMemory]
    rcases Nat.lt_succ_iff_lt_or_eq.1 hk with h | rfl
    · rw [Memory.read_write_ne (by omega), ih (by omega) h]
    · exact Memory.read_write_self (fillMemory_wf f (by omega)) k (f k)

end Sys2Proof.Machine
end

