-- ==== Sys2Proof/Laws/Ops.lean ====
section
/-! SUPPORT. One lemma for each shared operation, which says once everything it does: the next state
as the old one with the elements it writes.  Provers cite these and do not unfold the operations. -/

namespace Sys2Proof.Machine

variable (s : State)

/-! ### The stack -/

theorem stackAddr_toNat (sp : Byte) : (stackAddr sp).toNat = 256 + sp.toNat := by
  have := sp.isLt
  simp [stackAddr, zext16, BitVec.toNat_add, BitVec.toNat_setWidth]
  omega

/-- R23: a stack address lies in $0100..$01FF. -/
theorem stackAddr_in_page (sp : Byte) :
    0x0100 ≤ (stackAddr sp).toNat ∧ (stackAddr sp).toNat ≤ 0x01FF := by
  have := sp.isLt
  rw [stackAddr_toNat]
  omega

/-- Distinct slots have distinct addresses. -/
theorem stackAddr_inj {p q : Byte} (h : stackAddr p = stackAddr q) : p = q := by
  have := congrArg BitVec.toNat h
  simp only [stackAddr_toNat] at this
  exact BitVec.eq_of_toNat_eq (by omega)

theorem push_eq (v : Byte) :
    s.push v = { s with mem := s.mem.write (stackAddr s.sp).toNat v, sp := s.sp - 1 } := rfl

theorem pushWord_eq (w : Word) :
    s.pushWord w = ((s.writeByte (stackAddr s.sp) (hi w)).writeByte (stackAddr (s.sp - 1)) (lo w)).setSP
      (s.sp - 1 - 1) := rfl

theorem popByte_eq : s.popByte = s.readByte (stackAddr (s.sp + 1)) := rfl

theorem popWord_eq :
    s.popWord = word (s.readByte (stackAddr (s.sp + 1))) (s.readByte (stackAddr (s.sp + 1 + 1))) := rfl

theorem poppedWord_eq : s.poppedWord = { s with sp := s.sp + 1 + 1 } := rfl

theorem pullFlags_eq :
    s.pullFlags = { s with sp := s.sp + 1, flags := unpack s.popByte s.flags } := rfl

/-- R184, whole: three bytes are popped, flags first. -/
theorem returnFromInterrupt_eq :
    s.returnFromInterrupt =
      { s with
        sp := s.sp + 1 + 1 + 1
        flags := unpack (s.readByte (stackAddr (s.sp + 1))) s.flags
        pc := word (s.readByte (stackAddr (s.sp + 1 + 1))) (s.readByte (stackAddr (s.sp + 1 + 1 + 1))) } :=
  rfl

theorem halt_eq : s.halt = { s with flags := { s.flags with b := true }, running := false } := rfl

/-! ### Loads, stores, logic, increments -/

theorem loadA_eq (v : Byte) : loadA v s = { s with a := v, flags := s.flags.setZN v } := rfl

theorem loadX_eq (v : Byte) : loadX v s = { s with x := v, flags := s.flags.setZN v } := rfl

theorem loadY_eq (v : Byte) : loadY v s = { s with y := v, flags := s.flags.setZN v } := rfl

theorem storeA_eq (ea : Word) : storeA ea s = s.writeByte ea s.a := rfl

theorem storeX_eq (ea : Word) : storeX ea s = s.writeByte ea s.x := rfl

theorem storeY_eq (ea : Word) : storeY ea s = s.writeByte ea s.y := rfl

theorem orA_eq (m : Byte) :
    orA m s = { s with a := s.a ||| m, flags := s.flags.setZN (s.a ||| m) } := rfl

theorem andA_eq (m : Byte) :
    andA m s = { s with a := s.a &&& m, flags := s.flags.setZN (s.a &&& m) } := rfl

theorem eorA_eq (m : Byte) :
    eorA m s = { s with a := s.a ^^^ m, flags := s.flags.setZN (s.a ^^^ m) } := rfl

theorem incMem_eq (ea : Word) :
    incMem ea s = { s.writeByte ea (s.readByte ea + 1) with flags := s.flags.setZN (s.readByte ea + 1) } :=
  rfl

theorem decMem_eq (ea : Word) :
    decMem ea s = { s.writeByte ea (s.readByte ea - 1) with flags := s.flags.setZN (s.readByte ea - 1) } :=
  rfl

/-! ### Shifts, arithmetic, compares -/

theorem shiftTo_acc (r : Byte) (c : Bool) :
    shiftTo .acc r c s = { s with a := r, flags := { s.flags.setZN r with c := c } } := rfl

theorem shiftTo_mem (ea : Word) (r : Byte) (c : Bool) :
    shiftTo (.mem ea) r c s = { s.writeByte ea r with flags := { s.flags.setZN r with c := c } } := rfl

theorem accumulate_eq (r : Byte) (c v : Bool) :
    accumulate r c v s = { s with a := r, flags := { s.flags.setZN r with c := c, v := v } } := rfl

theorem compareA_eq (m : Byte) : compareA m s = { s with flags := s.flags.compare s.a m } := rfl

theorem compareX_eq (m : Byte) : compareX m s = { s with flags := s.flags.compare s.x m } := rfl

theorem compareY_eq (m : Byte) : compareY m s = { s with flags := s.flags.compare s.y m } := rfl

theorem bitTest_eq (m : Byte) : bitTest m s = { s with flags := s.flags.bitTest s.a m } := rfl

/-! ### Control -/

theorem branch_taken (d : Byte) : branch true d s = { s with pc := eaRelative d s } := rfl

theorem branch_not_taken (d : Byte) : branch false d s = s := rfl

/-- A branch changes nothing but PC. -/
theorem branch_eq (cond : Bool) (d : Byte) :
    branch cond d s = { s with pc := if cond then eaRelative d s else s.pc } := by
  cases cond <;> rfl

theorem jump_eq (ea : Word) : jump ea s = { s with pc := ea } := rfl

theorem callSubroutine_eq (ea : Word) :
    callSubroutine ea s = { s.pushWord (s.pc - 1) with pc := ea } := rfl

end Sys2Proof.Machine
end

