-- ==== Sys2Proof/Laws/Exec.lean ====
section
/-! SUPPORT. One inversion lemma for `exec`: the next state of an instruction is that of its mnemonic's
operation on its operand, whatever the mode.  A proof over all instructions takes cases on the 56
shapes and not on the 151 constructors. -/

namespace Sys2Proof.Machine

/-- Only the accumulator mode makes A the shift operand (R65). -/
theorem mode_of_shiftPlace_acc {o : Arg} {s : State} (h : shiftPlace o s = some .acc) :
    o.mode = .accumulator := by
  cases o <;> simp_all [shiftPlace, effectiveAddress, Arg.mode]

/-- What the next state of an instruction can be, mnemonic by mnemonic. -/
inductive ExecShape (i : Instr) (s : State) : State → Prop where
  | lda (hm : i.mnemonic = .lda) {v} (ho : operandValue i.arg s = some v) : ExecShape i s (loadA v s)
  | ldx (hm : i.mnemonic = .ldx) {v} (ho : operandValue i.arg s = some v) : ExecShape i s (loadX v s)
  | ldy (hm : i.mnemonic = .ldy) {v} (ho : operandValue i.arg s = some v) : ExecShape i s (loadY v s)
  | sta (hm : i.mnemonic = .sta) {ea} (ho : effectiveAddress i.arg s = some ea) : ExecShape i s (storeA ea s)
  | stx (hm : i.mnemonic = .stx) {ea} (ho : effectiveAddress i.arg s = some ea) : ExecShape i s (storeX ea s)
  | sty (hm : i.mnemonic = .sty) {ea} (ho : effectiveAddress i.arg s = some ea) : ExecShape i s (storeY ea s)
  | ora (hm : i.mnemonic = .ora) {v} (ho : operandValue i.arg s = some v) : ExecShape i s (orA v s)
  | and (hm : i.mnemonic = .and) {v} (ho : operandValue i.arg s = some v) : ExecShape i s (andA v s)
  | eor (hm : i.mnemonic = .eor) {v} (ho : operandValue i.arg s = some v) : ExecShape i s (eorA v s)
  | inc (hm : i.mnemonic = .inc) {ea} (ho : effectiveAddress i.arg s = some ea) : ExecShape i s (incMem ea s)
  | dec (hm : i.mnemonic = .dec) {ea} (ho : effectiveAddress i.arg s = some ea) : ExecShape i s (decMem ea s)
  | inx (hi : i = .inx) : ExecShape i s ((s.setX (s.x + 1)).setZN (s.x + 1))
  | iny (hi : i = .iny) : ExecShape i s ((s.setY (s.y + 1)).setZN (s.y + 1))
  | dex (hi : i = .dex) : ExecShape i s ((s.setX (s.x - 1)).setZN (s.x - 1))
  | dey (hi : i = .dey) : ExecShape i s ((s.setY (s.y - 1)).setZN (s.y - 1))
  | asl (hm : i.mnemonic = .asl) {p} (ho : shiftPlace i.arg s = some p) : ExecShape i s (shiftLeft p s)
  | lsr (hm : i.mnemonic = .lsr) {p} (ho : shiftPlace i.arg s = some p) : ExecShape i s (shiftRight p s)
  | rol (hm : i.mnemonic = .rol) {p} (ho : shiftPlace i.arg s = some p) : ExecShape i s (rotateLeft p s)
  | ror (hm : i.mnemonic = .ror) {p} (ho : shiftPlace i.arg s = some p) : ExecShape i s (rotateRight p s)
  | adc (hm : i.mnemonic = .adc) {v} (ho : operandValue i.arg s = some v) : ExecShape i s (addCarry v s)
  | sbc (hm : i.mnemonic = .sbc) {v} (ho : operandValue i.arg s = some v) : ExecShape i s (subCarry v s)
  | cmp (hm : i.mnemonic = .cmp) {v} (ho : operandValue i.arg s = some v) : ExecShape i s (compareA v s)
  | cpx (hm : i.mnemonic = .cpx) {v} (ho : operandValue i.arg s = some v) : ExecShape i s (compareX v s)
  | cpy (hm : i.mnemonic = .cpy) {v} (ho : operandValue i.arg s = some v) : ExecShape i s (compareY v s)
  | bit (hm : i.mnemonic = .bit) {v} (ho : operandValue i.arg s = some v) : ExecShape i s (bitTest v s)
  | bcc (d : Byte) (hi : i = .bcc d) : ExecShape i s (branch (s.flags.c == false) d s)
  | bcs (d : Byte) (hi : i = .bcs d) : ExecShape i s (branch (s.flags.c == true) d s)
  | beq (d : Byte) (hi : i = .beq d) : ExecShape i s (branch (s.flags.z == true) d s)
  | bmi (d : Byte) (hi : i = .bmi d) : ExecShape i s (branch (s.flags.n == true) d s)
  | bne (d : Byte) (hi : i = .bne d) : ExecShape i s (branch (s.flags.z == false) d s)
  | bpl (d : Byte) (hi : i = .bpl d) : ExecShape i s (branch (s.flags.n == false) d s)
  | bvc (d : Byte) (hi : i = .bvc d) : ExecShape i s (branch (s.flags.v == false) d s)
  | bvs (d : Byte) (hi : i = .bvs d) : ExecShape i s (branch (s.flags.v == true) d s)
  | jmp (hm : i.mnemonic = .jmp) {ea} (ho : effectiveAddress i.arg s = some ea) : ExecShape i s (jump ea s)
  | jsr (hm : i.mnemonic = .jsr) {ea} (ho : effectiveAddress i.arg s = some ea) : ExecShape i s (callSubroutine ea s)
  | rts (hi : i = .rts) : ExecShape i s (s.poppedWord.setPC (s.popWord + 1))
  | pha (hi : i = .pha) : ExecShape i s (s.push s.a)
  | pla (hi : i = .pla) : ExecShape i s ((s.popped.setA s.popByte).setZN s.popByte)
  | php (hi : i = .php) : ExecShape i s (s.push (pack s.flags))
  | plp (hi : i = .plp) : ExecShape i s s.pullFlags
  | rti (hi : i = .rti) : ExecShape i s s.returnFromInterrupt
  | brk (hi : i = .brk) : ExecShape i s s.halt
  | nop (hi : i = .nop) : ExecShape i s s
  | tax (hi : i = .tax) : ExecShape i s ((s.setX s.a).setZN s.a)
  | txa (hi : i = .txa) : ExecShape i s ((s.setA s.x).setZN s.x)
  | tay (hi : i = .tay) : ExecShape i s ((s.setY s.a).setZN s.a)
  | tya (hi : i = .tya) : ExecShape i s ((s.setA s.y).setZN s.y)
  | tsx (hi : i = .tsx) : ExecShape i s ((s.setX s.sp).setZN s.sp)
  | txs (hi : i = .txs) : ExecShape i s (s.setSP s.x)
  | sec (hi : i = .sec) : ExecShape i s (s.setFlags { s.flags with c := true })
  | clc (hi : i = .clc) : ExecShape i s (s.setFlags { s.flags with c := false })
  | sed (hi : i = .sed) : ExecShape i s (s.setFlags { s.flags with d := true })
  | cld (hi : i = .cld) : ExecShape i s (s.setFlags { s.flags with d := false })
  | sei (hi : i = .sei) : ExecShape i s (s.setFlags { s.flags with i := true })
  | cli (hi : i = .cli) : ExecShape i s (s.setFlags { s.flags with i := false })
  | clv (hi : i = .clv) : ExecShape i s (s.setFlags { s.flags with v := false })

theorem exec_next_shape {i : Instr} {s t : State} (h : exec i s = .next t) : ExecShape i s t := by
  cases i with
  | ldaImmediate v => cases h; exact .lda rfl rfl
  | ldaZeropage z => cases h; exact .lda rfl rfl
  | ldaZeropageX z => cases h; exact .lda rfl rfl
  | ldaAbsolute w => cases h; exact .lda rfl rfl
  | ldaAbsoluteX w => cases h; exact .lda rfl rfl
  | ldaAbsoluteY w => cases h; exact .lda rfl rfl
  | ldaIndirectX z => cases h; exact .lda rfl rfl
  | ldaIndirectY z => cases h; exact .lda rfl rfl
  | ldxImmediate v => cases h; exact .ldx rfl rfl
  | ldxZeropage z => cases h; exact .ldx rfl rfl
  | ldxZeropageY z => cases h; exact .ldx rfl rfl
  | ldxAbsolute w => cases h; exact .ldx rfl rfl
  | ldxAbsoluteY w => cases h; exact .ldx rfl rfl
  | ldyImmediate v => cases h; exact .ldy rfl rfl
  | ldyZeropage z => cases h; exact .ldy rfl rfl
  | ldyZeropageX z => cases h; exact .ldy rfl rfl
  | ldyAbsolute w => cases h; exact .ldy rfl rfl
  | ldyAbsoluteX w => cases h; exact .ldy rfl rfl
  | staZeropage z => cases h; exact .sta rfl rfl
  | staZeropageX z => cases h; exact .sta rfl rfl
  | staAbsolute w => cases h; exact .sta rfl rfl
  | staAbsoluteX w => cases h; exact .sta rfl rfl
  | staAbsoluteY w => cases h; exact .sta rfl rfl
  | staIndirectX z => cases h; exact .sta rfl rfl
  | staIndirectY z => cases h; exact .sta rfl rfl
  | stxZeropage z => cases h; exact .stx rfl rfl
  | stxZeropageY z => cases h; exact .stx rfl rfl
  | stxAbsolute w => cases h; exact .stx rfl rfl
  | styZeropage z => cases h; exact .sty rfl rfl
  | styZeropageX z => cases h; exact .sty rfl rfl
  | styAbsolute w => cases h; exact .sty rfl rfl
  | oraImmediate v => cases h; exact .ora rfl rfl
  | oraZeropage z => cases h; exact .ora rfl rfl
  | oraZeropageX z => cases h; exact .ora rfl rfl
  | oraAbsolute w => cases h; exact .ora rfl rfl
  | oraAbsoluteX w => cases h; exact .ora rfl rfl
  | oraAbsoluteY w => cases h; exact .ora rfl rfl
  | oraIndirectX z => cases h; exact .ora rfl rfl
  | oraIndirectY z => cases h; exact .ora rfl rfl
  | andImmediate v => cases h; exact .and rfl rfl
  | andZeropage z => cases h; exact .and rfl rfl
  | andZeropageX z => cases h; exact .and rfl rfl
  | andAbsolute w => cases h; exact .and rfl rfl
  | andAbsoluteX w => cases h; exact .and rfl rfl
  | andAbsoluteY w => cases h; exact .and rfl rfl
  | andIndirectX z => cases h; exact .and rfl rfl
  | andIndirectY z => cases h; exact .and rfl rfl
  | eorImmediate v => cases h; exact .eor rfl rfl
  | eorZeropage z => cases h; exact .eor rfl rfl
  | eorZeropageX z => cases h; exact .eor rfl rfl
  | eorAbsolute w => cases h; exact .eor rfl rfl
  | eorAbsoluteX w => cases h; exact .eor rfl rfl
  | eorAbsoluteY w => cases h; exact .eor rfl rfl
  | eorIndirectX z => cases h; exact .eor rfl rfl
  | eorIndirectY z => cases h; exact .eor rfl rfl
  | incZeropage z => cases h; exact .inc rfl rfl
  | incZeropageX z => cases h; exact .inc rfl rfl
  | incAbsolute w => cases h; exact .inc rfl rfl
  | incAbsoluteX w => cases h; exact .inc rfl rfl
  | decZeropage z => cases h; exact .dec rfl rfl
  | decZeropageX z => cases h; exact .dec rfl rfl
  | decAbsolute w => cases h; exact .dec rfl rfl
  | decAbsoluteX w => cases h; exact .dec rfl rfl
  | inx => cases h; exact .inx rfl
  | iny => cases h; exact .iny rfl
  | dex => cases h; exact .dex rfl
  | dey => cases h; exact .dey rfl
  | aslAccumulator => cases h; exact .asl rfl rfl
  | aslZeropage z => cases h; exact .asl rfl rfl
  | aslZeropageX z => cases h; exact .asl rfl rfl
  | aslAbsolute w => cases h; exact .asl rfl rfl
  | aslAbsoluteX w => cases h; exact .asl rfl rfl
  | lsrAccumulator => cases h; exact .lsr rfl rfl
  | lsrZeropage z => cases h; exact .lsr rfl rfl
  | lsrZeropageX z => cases h; exact .lsr rfl rfl
  | lsrAbsolute w => cases h; exact .lsr rfl rfl
  | lsrAbsoluteX w => cases h; exact .lsr rfl rfl
  | rolAccumulator => cases h; exact .rol rfl rfl
  | rolZeropage z => cases h; exact .rol rfl rfl
  | rolZeropageX z => cases h; exact .rol rfl rfl
  | rolAbsolute w => cases h; exact .rol rfl rfl
  | rolAbsoluteX w => cases h; exact .rol rfl rfl
  | rorAccumulator => cases h; exact .ror rfl rfl
  | rorZeropage z => cases h; exact .ror rfl rfl
  | rorZeropageX z => cases h; exact .ror rfl rfl
  | rorAbsolute w => cases h; exact .ror rfl rfl
  | rorAbsoluteX w => cases h; exact .ror rfl rfl
  | adcImmediate v => cases h; exact .adc rfl rfl
  | adcZeropage z => cases h; exact .adc rfl rfl
  | adcZeropageX z => cases h; exact .adc rfl rfl
  | adcAbsolute w => cases h; exact .adc rfl rfl
  | adcAbsoluteX w => cases h; exact .adc rfl rfl
  | adcAbsoluteY w => cases h; exact .adc rfl rfl
  | adcIndirectX z => cases h; exact .adc rfl rfl
  | adcIndirectY z => cases h; exact .adc rfl rfl
  | sbcImmediate v => cases h; exact .sbc rfl rfl
  | sbcZeropage z => cases h; exact .sbc rfl rfl
  | sbcZeropageX z => cases h; exact .sbc rfl rfl
  | sbcAbsolute w => cases h; exact .sbc rfl rfl
  | sbcAbsoluteX w => cases h; exact .sbc rfl rfl
  | sbcAbsoluteY w => cases h; exact .sbc rfl rfl
  | sbcIndirectX z => cases h; exact .sbc rfl rfl
  | sbcIndirectY z => cases h; exact .sbc rfl rfl
  | cmpImmediate v => cases h; exact .cmp rfl rfl
  | cmpZeropage z => cases h; exact .cmp rfl rfl
  | cmpZeropageX z => cases h; exact .cmp rfl rfl
  | cmpAbsolute w => cases h; exact .cmp rfl rfl
  | cmpAbsoluteX w => cases h; exact .cmp rfl rfl
  | cmpAbsoluteY w => cases h; exact .cmp rfl rfl
  | cmpIndirectX z => cases h; exact .cmp rfl rfl
  | cmpIndirectY z => cases h; exact .cmp rfl rfl
  | cpxImmediate v => cases h; exact .cpx rfl rfl
  | cpxZeropage z => cases h; exact .cpx rfl rfl
  | cpxAbsolute w => cases h; exact .cpx rfl rfl
  | cpyImmediate v => cases h; exact .cpy rfl rfl
  | cpyZeropage z => cases h; exact .cpy rfl rfl
  | cpyAbsolute w => cases h; exact .cpy rfl rfl
  | bitZeropage z => cases h; exact .bit rfl rfl
  | bitAbsolute w => cases h; exact .bit rfl rfl
  | bcc d => cases h; exact .bcc d rfl
  | bcs d => cases h; exact .bcs d rfl
  | beq d => cases h; exact .beq d rfl
  | bmi d => cases h; exact .bmi d rfl
  | bne d => cases h; exact .bne d rfl
  | bpl d => cases h; exact .bpl d rfl
  | bvc d => cases h; exact .bvc d rfl
  | bvs d => cases h; exact .bvs d rfl
  | jmpAbsolute w => cases h; exact .jmp rfl rfl
  | jmpIndirect w => cases h; exact .jmp rfl rfl
  | jsr w => cases h; exact .jsr rfl rfl
  | rts => cases h; exact .rts rfl
  | pha => cases h; exact .pha rfl
  | pla => cases h; exact .pla rfl
  | php => cases h; exact .php rfl
  | plp => cases h; exact .plp rfl
  | rti => cases h; exact .rti rfl
  | brk => cases h; exact .brk rfl
  | nop => cases h; exact .nop rfl
  | tax => cases h; exact .tax rfl
  | txa => cases h; exact .txa rfl
  | tay => cases h; exact .tay rfl
  | tya => cases h; exact .tya rfl
  | tsx => cases h; exact .tsx rfl
  | txs => cases h; exact .txs rfl
  | sec => cases h; exact .sec rfl
  | clc => cases h; exact .clc rfl
  | sed => cases h; exact .sed rfl
  | cld => cases h; exact .cld rfl
  | sei => cases h; exact .sei rfl
  | cli => cases h; exact .cli rfl
  | clv => cases h; exact .clv rfl

end Sys2Proof.Machine
end

