-- ==== Sys2Proof/Laws/Flags.lean ====
section
/-! SUPPORT. The flag and result computations over numbers: what each adder, subtractor, shifter and
flag test says about the values, so that no later proof unfolds one. -/

namespace Sys2Proof.Machine

theorem getLsbD_eq_div (v : Byte) (k : Nat) :
    v.getLsbD k = decide (v.toNat / 2 ^ k % 2 = 1) := by
  rw [BitVec.getLsbD, Nat.testBit_eq_decide_div_mod_eq]

theorem getLsbD_seven (v : Byte) : v.getLsbD 7 = decide (128 ≤ v.toNat) := by
  have := BitVec.msb_eq_decide v
  rw [BitVec.msb_eq_getLsbD_last] at this
  simpa using this

theorem beq_zero_eq (v : Byte) : (v == 0) = decide (v.toNat = 0) := by
  rw [beq_eq_decide]
  congr 1
  simp [BitVec.toNat_eq]

/-- `SetZN` is the number form of R29. -/
theorem setZN_eq_withZN (f : Flags) (v : Byte) : f.setZN v = f.withZN v := by
  simp only [Flags.setZN, Flags.withZN, beq_zero_eq, getLsbD_seven]

theorem bitNat_le_one (b : Bool) : bitNat b ≤ 1 := by
  cases b <;> decide

theorem and_sign_beq_zero (x : Byte) : ((x &&& 0x80) == 0) = !x.msb := by
  revert x
  decide

/-- The sign test of R140: two bytes share a sign. -/
theorem xor_sign_clear (a m : Byte) : ((a ^^^ m) &&& 0x80 == 0) = decide (a.msb = m.msb) := by
  rw [and_sign_beq_zero, BitVec.msb_xor]
  cases a.msb <;> cases m.msb <;> rfl

/-- The sign test of R140 and R141: two bytes differ in sign. -/
theorem xor_sign_set (a m : Byte) : ((a ^^^ m) &&& 0x80 != 0) = decide (a.msb ≠ m.msb) := by
  rw [bne, xor_sign_clear]
  simp

/-- R140 over the integers: the result and the carry hold the whole sum. -/
theorem adc_value (a m : Byte) (c : Bool) :
    (adcResult a m c).toNat + 256 * bitNat (adcCarry a m c) = a.toNat + m.toNat + bitNat c := by
  have := a.isLt
  have := m.isLt
  simp only [adcResult, adcCarry, adcSum, BitVec.toNat_ofNat]
  cases c <;> simp only [bitNat] <;> simp <;> split <;> omega

/-- R141 over the integers: the result less 256 for a borrow is the whole difference. -/
theorem sbc_value (a m : Byte) (c : Bool) :
    ((sbcResult a m c).toNat : Int) - 256 * bitNat (!sbcCarry a m c) =
      a.toNat - m.toNat - (1 - bitNat c) := by
  have := a.isLt
  have := m.isLt
  simp only [sbcResult, sbcCarry, sbcDiff, BitVec.toNat_ofInt]
  cases c <;> simp only [bitNat] <;> simp <;> split <;> omega

/-- R142 over numbers. -/
theorem compare_eq (f : Flags) (reg m : Byte) :
    f.compare reg m =
      { f with
        c := decide (m.toNat ≤ reg.toNat), z := decide (reg = m),
        n := decide (128 ≤ (256 - m.toNat + reg.toNat) % 256) } := by
  simp only [Flags.compare, getLsbD_seven, BitVec.toNat_sub, ge_iff_le, beq_eq_decide]

/-- R31: unpacking a packed byte gives every flag back, with B and U as they stood. -/
theorem unpack_pack (f g : Flags) (hb : g.b = f.b) (hu : g.u = f.u) : unpack (pack f) g = f := by
  obtain ⟨c, z, i, d, b, u, v, n⟩ := f
  obtain ⟨c', z', i', d', b', u', v', n'⟩ := g
  obtain rfl : b' = b := hb
  obtain rfl : u' = u := hu
  revert c z i d b' u' v n
  simp only [unpack]
  decide

end Sys2Proof.Machine
end

