-- ==== Sys2Proof/Laws/PerInstr.lean ====
section
/-! SUPPORT. Statements about every instruction as syntax, one lemma per constructor.

`FormTable`: the instruction's mode is one its mnemonic accepts (30_encoding.md R77), its encoding has
the length of its mode (R61), and the lookup of its opcode finds the row that builds it (R78, R79). -/

namespace Sys2Proof.Laws.FormTable

open Sys2Proof.Machine (lo hi)

/-- The row builds the instruction from its own operand bytes. -/
def Builds (i : Instr) : Build → Prop
  | .done j => j = i ∧ i.arg.bytes = []
  | .byte f => ∃ b, f b = i ∧ i.arg.bytes = [b]
  | .word f => ∃ w, f w = i ∧ i.arg.bytes = [lo w, hi w]

def Statement (i : Instr) : Prop :=
  i.wellFormed = true ∧ (encode i).length = i.length ∧
    ∃ row, lookupOpcode i.opcode = some row ∧ Builds i row

theorem ldaImmediate (v : Byte) : Statement (.ldaImmediate v) := ⟨rfl, rfl, _, rfl, v, rfl, rfl⟩
theorem ldaZeropage (z : Byte) : Statement (.ldaZeropage z) := ⟨rfl, rfl, _, rfl, z, rfl, rfl⟩
theorem ldaZeropageX (z : Byte) : Statement (.ldaZeropageX z) := ⟨rfl, rfl, _, rfl, z, rfl, rfl⟩
theorem ldaAbsolute (w : Word) : Statement (.ldaAbsolute w) := ⟨rfl, rfl, _, rfl, w, rfl, rfl⟩
theorem ldaAbsoluteX (w : Word) : Statement (.ldaAbsoluteX w) := ⟨rfl, rfl, _, rfl, w, rfl, rfl⟩
theorem ldaAbsoluteY (w : Word) : Statement (.ldaAbsoluteY w) := ⟨rfl, rfl, _, rfl, w, rfl, rfl⟩
theorem ldaIndirectX (z : Byte) : Statement (.ldaIndirectX z) := ⟨rfl, rfl, _, rfl, z, rfl, rfl⟩
theorem ldaIndirectY (z : Byte) : Statement (.ldaIndirectY z) := ⟨rfl, rfl, _, rfl, z, rfl, rfl⟩
theorem ldxImmediate (v : Byte) : Statement (.ldxImmediate v) := ⟨rfl, rfl, _, rfl, v, rfl, rfl⟩
theorem ldxZeropage (z : Byte) : Statement (.ldxZeropage z) := ⟨rfl, rfl, _, rfl, z, rfl, rfl⟩
theorem ldxZeropageY (z : Byte) : Statement (.ldxZeropageY z) := ⟨rfl, rfl, _, rfl, z, rfl, rfl⟩
theorem ldxAbsolute (w : Word) : Statement (.ldxAbsolute w) := ⟨rfl, rfl, _, rfl, w, rfl, rfl⟩
theorem ldxAbsoluteY (w : Word) : Statement (.ldxAbsoluteY w) := ⟨rfl, rfl, _, rfl, w, rfl, rfl⟩
theorem ldyImmediate (v : Byte) : Statement (.ldyImmediate v) := ⟨rfl, rfl, _, rfl, v, rfl, rfl⟩
theorem ldyZeropage (z : Byte) : Statement (.ldyZeropage z) := ⟨rfl, rfl, _, rfl, z, rfl, rfl⟩
theorem ldyZeropageX (z : Byte) : Statement (.ldyZeropageX z) := ⟨rfl, rfl, _, rfl, z, rfl, rfl⟩
theorem ldyAbsolute (w : Word) : Statement (.ldyAbsolute w) := ⟨rfl, rfl, _, rfl, w, rfl, rfl⟩
theorem ldyAbsoluteX (w : Word) : Statement (.ldyAbsoluteX w) := ⟨rfl, rfl, _, rfl, w, rfl, rfl⟩
theorem staZeropage (z : Byte) : Statement (.staZeropage z) := ⟨rfl, rfl, _, rfl, z, rfl, rfl⟩
theorem staZeropageX (z : Byte) : Statement (.staZeropageX z) := ⟨rfl, rfl, _, rfl, z, rfl, rfl⟩
theorem staAbsolute (w : Word) : Statement (.staAbsolute w) := ⟨rfl, rfl, _, rfl, w, rfl, rfl⟩
theorem staAbsoluteX (w : Word) : Statement (.staAbsoluteX w) := ⟨rfl, rfl, _, rfl, w, rfl, rfl⟩
theorem staAbsoluteY (w : Word) : Statement (.staAbsoluteY w) := ⟨rfl, rfl, _, rfl, w, rfl, rfl⟩
theorem staIndirectX (z : Byte) : Statement (.staIndirectX z) := ⟨rfl, rfl, _, rfl, z, rfl, rfl⟩
theorem staIndirectY (z : Byte) : Statement (.staIndirectY z) := ⟨rfl, rfl, _, rfl, z, rfl, rfl⟩
theorem stxZeropage (z : Byte) : Statement (.stxZeropage z) := ⟨rfl, rfl, _, rfl, z, rfl, rfl⟩
theorem stxZeropageY (z : Byte) : Statement (.stxZeropageY z) := ⟨rfl, rfl, _, rfl, z, rfl, rfl⟩
theorem stxAbsolute (w : Word) : Statement (.stxAbsolute w) := ⟨rfl, rfl, _, rfl, w, rfl, rfl⟩
theorem styZeropage (z : Byte) : Statement (.styZeropage z) := ⟨rfl, rfl, _, rfl, z, rfl, rfl⟩
theorem styZeropageX (z : Byte) : Statement (.styZeropageX z) := ⟨rfl, rfl, _, rfl, z, rfl, rfl⟩
theorem styAbsolute (w : Word) : Statement (.styAbsolute w) := ⟨rfl, rfl, _, rfl, w, rfl, rfl⟩
theorem oraImmediate (v : Byte) : Statement (.oraImmediate v) := ⟨rfl, rfl, _, rfl, v, rfl, rfl⟩
theorem oraZeropage (z : Byte) : Statement (.oraZeropage z) := ⟨rfl, rfl, _, rfl, z, rfl, rfl⟩
theorem oraZeropageX (z : Byte) : Statement (.oraZeropageX z) := ⟨rfl, rfl, _, rfl, z, rfl, rfl⟩
theorem oraAbsolute (w : Word) : Statement (.oraAbsolute w) := ⟨rfl, rfl, _, rfl, w, rfl, rfl⟩
theorem oraAbsoluteX (w : Word) : Statement (.oraAbsoluteX w) := ⟨rfl, rfl, _, rfl, w, rfl, rfl⟩
theorem oraAbsoluteY (w : Word) : Statement (.oraAbsoluteY w) := ⟨rfl, rfl, _, rfl, w, rfl, rfl⟩
theorem oraIndirectX (z : Byte) : Statement (.oraIndirectX z) := ⟨rfl, rfl, _, rfl, z, rfl, rfl⟩
theorem oraIndirectY (z : Byte) : Statement (.oraIndirectY z) := ⟨rfl, rfl, _, rfl, z, rfl, rfl⟩
theorem andImmediate (v : Byte) : Statement (.andImmediate v) := ⟨rfl, rfl, _, rfl, v, rfl, rfl⟩
theorem andZeropage (z : Byte) : Statement (.andZeropage z) := ⟨rfl, rfl, _, rfl, z, rfl, rfl⟩
theorem andZeropageX (z : Byte) : Statement (.andZeropageX z) := ⟨rfl, rfl, _, rfl, z, rfl, rfl⟩
theorem andAbsolute (w : Word) : Statement (.andAbsolute w) := ⟨rfl, rfl, _, rfl, w, rfl, rfl⟩
theorem andAbsoluteX (w : Word) : Statement (.andAbsoluteX w) := ⟨rfl, rfl, _, rfl, w, rfl, rfl⟩
theorem andAbsoluteY (w : Word) : Statement (.andAbsoluteY w) := ⟨rfl, rfl, _, rfl, w, rfl, rfl⟩
theorem andIndirectX (z : Byte) : Statement (.andIndirectX z) := ⟨rfl, rfl, _, rfl, z, rfl, rfl⟩
theorem andIndirectY (z : Byte) : Statement (.andIndirectY z) := ⟨rfl, rfl, _, rfl, z, rfl, rfl⟩
theorem eorImmediate (v : Byte) : Statement (.eorImmediate v) := ⟨rfl, rfl, _, rfl, v, rfl, rfl⟩
theorem eorZeropage (z : Byte) : Statement (.eorZeropage z) := ⟨rfl, rfl, _, rfl, z, rfl, rfl⟩
theorem eorZeropageX (z : Byte) : Statement (.eorZeropageX z) := ⟨rfl, rfl, _, rfl, z, rfl, rfl⟩
theorem eorAbsolute (w : Word) : Statement (.eorAbsolute w) := ⟨rfl, rfl, _, rfl, w, rfl, rfl⟩
theorem eorAbsoluteX (w : Word) : Statement (.eorAbsoluteX w) := ⟨rfl, rfl, _, rfl, w, rfl, rfl⟩
theorem eorAbsoluteY (w : Word) : Statement (.eorAbsoluteY w) := ⟨rfl, rfl, _, rfl, w, rfl, rfl⟩
theorem eorIndirectX (z : Byte) : Statement (.eorIndirectX z) := ⟨rfl, rfl, _, rfl, z, rfl, rfl⟩
theorem eorIndirectY (z : Byte) : Statement (.eorIndirectY z) := ⟨rfl, rfl, _, rfl, z, rfl, rfl⟩
theorem incZeropage (z : Byte) : Statement (.incZeropage z) := ⟨rfl, rfl, _, rfl, z, rfl, rfl⟩
theorem incZeropageX (z : Byte) : Statement (.incZeropageX z) := ⟨rfl, rfl, _, rfl, z, rfl, rfl⟩
theorem incAbsolute (w : Word) : Statement (.incAbsolute w) := ⟨rfl, rfl, _, rfl, w, rfl, rfl⟩
theorem incAbsoluteX (w : Word) : Statement (.incAbsoluteX w) := ⟨rfl, rfl, _, rfl, w, rfl, rfl⟩
theorem decZeropage (z : Byte) : Statement (.decZeropage z) := ⟨rfl, rfl, _, rfl, z, rfl, rfl⟩
theorem decZeropageX (z : Byte) : Statement (.decZeropageX z) := ⟨rfl, rfl, _, rfl, z, rfl, rfl⟩
theorem decAbsolute (w : Word) : Statement (.decAbsolute w) := ⟨rfl, rfl, _, rfl, w, rfl, rfl⟩
theorem decAbsoluteX (w : Word) : Statement (.decAbsoluteX w) := ⟨rfl, rfl, _, rfl, w, rfl, rfl⟩
theorem inx : Statement .inx := ⟨rfl, rfl, _, rfl, rfl, rfl⟩
theorem iny : Statement .iny := ⟨rfl, rfl, _, rfl, rfl, rfl⟩
theorem dex : Statement .dex := ⟨rfl, rfl, _, rfl, rfl, rfl⟩
theorem dey : Statement .dey := ⟨rfl, rfl, _, rfl, rfl, rfl⟩
theorem aslAccumulator : Statement .aslAccumulator := ⟨rfl, rfl, _, rfl, rfl, rfl⟩
theorem aslZeropage (z : Byte) : Statement (.aslZeropage z) := ⟨rfl, rfl, _, rfl, z, rfl, rfl⟩
theorem aslZeropageX (z : Byte) : Statement (.aslZeropageX z) := ⟨rfl, rfl, _, rfl, z, rfl, rfl⟩
theorem aslAbsolute (w : Word) : Statement (.aslAbsolute w) := ⟨rfl, rfl, _, rfl, w, rfl, rfl⟩
theorem aslAbsoluteX (w : Word) : Statement (.aslAbsoluteX w) := ⟨rfl, rfl, _, rfl, w, rfl, rfl⟩
theorem lsrAccumulator : Statement .lsrAccumulator := ⟨rfl, rfl, _, rfl, rfl, rfl⟩
theorem lsrZeropage (z : Byte) : Statement (.lsrZeropage z) := ⟨rfl, rfl, _, rfl, z, rfl, rfl⟩
theorem lsrZeropageX (z : Byte) : Statement (.lsrZeropageX z) := ⟨rfl, rfl, _, rfl, z, rfl, rfl⟩
theorem lsrAbsolute (w : Word) : Statement (.lsrAbsolute w) := ⟨rfl, rfl, _, rfl, w, rfl, rfl⟩
theorem lsrAbsoluteX (w : Word) : Statement (.lsrAbsoluteX w) := ⟨rfl, rfl, _, rfl, w, rfl, rfl⟩
theorem rolAccumulator : Statement .rolAccumulator := ⟨rfl, rfl, _, rfl, rfl, rfl⟩
theorem rolZeropage (z : Byte) : Statement (.rolZeropage z) := ⟨rfl, rfl, _, rfl, z, rfl, rfl⟩
theorem rolZeropageX (z : Byte) : Statement (.rolZeropageX z) := ⟨rfl, rfl, _, rfl, z, rfl, rfl⟩
theorem rolAbsolute (w : Word) : Statement (.rolAbsolute w) := ⟨rfl, rfl, _, rfl, w, rfl, rfl⟩
theorem rolAbsoluteX (w : Word) : Statement (.rolAbsoluteX w) := ⟨rfl, rfl, _, rfl, w, rfl, rfl⟩
theorem rorAccumulator : Statement .rorAccumulator := ⟨rfl, rfl, _, rfl, rfl, rfl⟩
theorem rorZeropage (z : Byte) : Statement (.rorZeropage z) := ⟨rfl, rfl, _, rfl, z, rfl, rfl⟩
theorem rorZeropageX (z : Byte) : Statement (.rorZeropageX z) := ⟨rfl, rfl, _, rfl, z, rfl, rfl⟩
theorem rorAbsolute (w : Word) : Statement (.rorAbsolute w) := ⟨rfl, rfl, _, rfl, w, rfl, rfl⟩
theorem rorAbsoluteX (w : Word) : Statement (.rorAbsoluteX w) := ⟨rfl, rfl, _, rfl, w, rfl, rfl⟩
theorem adcImmediate (v : Byte) : Statement (.adcImmediate v) := ⟨rfl, rfl, _, rfl, v, rfl, rfl⟩
theorem adcZeropage (z : Byte) : Statement (.adcZeropage z) := ⟨rfl, rfl, _, rfl, z, rfl, rfl⟩
theorem adcZeropageX (z : Byte) : Statement (.adcZeropageX z) := ⟨rfl, rfl, _, rfl, z, rfl, rfl⟩
theorem adcAbsolute (w : Word) : Statement (.adcAbsolute w) := ⟨rfl, rfl, _, rfl, w, rfl, rfl⟩
theorem adcAbsoluteX (w : Word) : Statement (.adcAbsoluteX w) := ⟨rfl, rfl, _, rfl, w, rfl, rfl⟩
theorem adcAbsoluteY (w : Word) : Statement (.adcAbsoluteY w) := ⟨rfl, rfl, _, rfl, w, rfl, rfl⟩
theorem adcIndirectX (z : Byte) : Statement (.adcIndirectX z) := ⟨rfl, rfl, _, rfl, z, rfl, rfl⟩
theorem adcIndirectY (z : Byte) : Statement (.adcIndirectY z) := ⟨rfl, rfl, _, rfl, z, rfl, rfl⟩
theorem sbcImmediate (v : Byte) : Statement (.sbcImmediate v) := ⟨rfl, rfl, _, rfl, v, rfl, rfl⟩
theorem sbcZeropage (z : Byte) : Statement (.sbcZeropage z) := ⟨rfl, rfl, _, rfl, z, rfl, rfl⟩
theorem sbcZeropageX (z : Byte) : Statement (.sbcZeropageX z) := ⟨rfl, rfl, _, rfl, z, rfl, rfl⟩
theorem sbcAbsolute (w : Word) : Statement (.sbcAbsolute w) := ⟨rfl, rfl, _, rfl, w, rfl, rfl⟩
theorem sbcAbsoluteX (w : Word) : Statement (.sbcAbsoluteX w) := ⟨rfl, rfl, _, rfl, w, rfl, rfl⟩
theorem sbcAbsoluteY (w : Word) : Statement (.sbcAbsoluteY w) := ⟨rfl, rfl, _, rfl, w, rfl, rfl⟩
theorem sbcIndirectX (z : Byte) : Statement (.sbcIndirectX z) := ⟨rfl, rfl, _, rfl, z, rfl, rfl⟩
theorem sbcIndirectY (z : Byte) : Statement (.sbcIndirectY z) := ⟨rfl, rfl, _, rfl, z, rfl, rfl⟩
theorem cmpImmediate (v : Byte) : Statement (.cmpImmediate v) := ⟨rfl, rfl, _, rfl, v, rfl, rfl⟩
theorem cmpZeropage (z : Byte) : Statement (.cmpZeropage z) := ⟨rfl, rfl, _, rfl, z, rfl, rfl⟩
theorem cmpZeropageX (z : Byte) : Statement (.cmpZeropageX z) := ⟨rfl, rfl, _, rfl, z, rfl, rfl⟩
theorem cmpAbsolute (w : Word) : Statement (.cmpAbsolute w) := ⟨rfl, rfl, _, rfl, w, rfl, rfl⟩
theorem cmpAbsoluteX (w : Word) : Statement (.cmpAbsoluteX w) := ⟨rfl, rfl, _, rfl, w, rfl, rfl⟩
theorem cmpAbsoluteY (w : Word) : Statement (.cmpAbsoluteY w) := ⟨rfl, rfl, _, rfl, w, rfl, rfl⟩
theorem cmpIndirectX (z : Byte) : Statement (.cmpIndirectX z) := ⟨rfl, rfl, _, rfl, z, rfl, rfl⟩
theorem cmpIndirectY (z : Byte) : Statement (.cmpIndirectY z) := ⟨rfl, rfl, _, rfl, z, rfl, rfl⟩
theorem cpxImmediate (v : Byte) : Statement (.cpxImmediate v) := ⟨rfl, rfl, _, rfl, v, rfl, rfl⟩
theorem cpxZeropage (z : Byte) : Statement (.cpxZeropage z) := ⟨rfl, rfl, _, rfl, z, rfl, rfl⟩
theorem cpxAbsolute (w : Word) : Statement (.cpxAbsolute w) := ⟨rfl, rfl, _, rfl, w, rfl, rfl⟩
theorem cpyImmediate (v : Byte) : Statement (.cpyImmediate v) := ⟨rfl, rfl, _, rfl, v, rfl, rfl⟩
theorem cpyZeropage (z : Byte) : Statement (.cpyZeropage z) := ⟨rfl, rfl, _, rfl, z, rfl, rfl⟩
theorem cpyAbsolute (w : Word) : Statement (.cpyAbsolute w) := ⟨rfl, rfl, _, rfl, w, rfl, rfl⟩
theorem bitZeropage (z : Byte) : Statement (.bitZeropage z) := ⟨rfl, rfl, _, rfl, z, rfl, rfl⟩
theorem bitAbsolute (w : Word) : Statement (.bitAbsolute w) := ⟨rfl, rfl, _, rfl, w, rfl, rfl⟩
theorem bcc (d : Byte) : Statement (.bcc d) := ⟨rfl, rfl, _, rfl, d, rfl, rfl⟩
theorem bcs (d : Byte) : Statement (.bcs d) := ⟨rfl, rfl, _, rfl, d, rfl, rfl⟩
theorem beq (d : Byte) : Statement (.beq d) := ⟨rfl, rfl, _, rfl, d, rfl, rfl⟩
theorem bmi (d : Byte) : Statement (.bmi d) := ⟨rfl, rfl, _, rfl, d, rfl, rfl⟩
theorem bne (d : Byte) : Statement (.bne d) := ⟨rfl, rfl, _, rfl, d, rfl, rfl⟩
theorem bpl (d : Byte) : Statement (.bpl d) := ⟨rfl, rfl, _, rfl, d, rfl, rfl⟩
theorem bvc (d : Byte) : Statement (.bvc d) := ⟨rfl, rfl, _, rfl, d, rfl, rfl⟩
theorem bvs (d : Byte) : Statement (.bvs d) := ⟨rfl, rfl, _, rfl, d, rfl, rfl⟩
theorem jmpAbsolute (w : Word) : Statement (.jmpAbsolute w) := ⟨rfl, rfl, _, rfl, w, rfl, rfl⟩
theorem jmpIndirect (w : Word) : Statement (.jmpIndirect w) := ⟨rfl, rfl, _, rfl, w, rfl, rfl⟩
theorem jsr (w : Word) : Statement (.jsr w) := ⟨rfl, rfl, _, rfl, w, rfl, rfl⟩
theorem rts : Statement .rts := ⟨rfl, rfl, _, rfl, rfl, rfl⟩
theorem pha : Statement .pha := ⟨rfl, rfl, _, rfl, rfl, rfl⟩
theorem pla : Statement .pla := ⟨rfl, rfl, _, rfl, rfl, rfl⟩
theorem php : Statement .php := ⟨rfl, rfl, _, rfl, rfl, rfl⟩
theorem plp : Statement .plp := ⟨rfl, rfl, _, rfl, rfl, rfl⟩
theorem rti : Statement .rti := ⟨rfl, rfl, _, rfl, rfl, rfl⟩
theorem brk : Statement .brk := ⟨rfl, rfl, _, rfl, rfl, rfl⟩
theorem nop : Statement .nop := ⟨rfl, rfl, _, rfl, rfl, rfl⟩
theorem tax : Statement .tax := ⟨rfl, rfl, _, rfl, rfl, rfl⟩
theorem txa : Statement .txa := ⟨rfl, rfl, _, rfl, rfl, rfl⟩
theorem tay : Statement .tay := ⟨rfl, rfl, _, rfl, rfl, rfl⟩
theorem tya : Statement .tya := ⟨rfl, rfl, _, rfl, rfl, rfl⟩
theorem tsx : Statement .tsx := ⟨rfl, rfl, _, rfl, rfl, rfl⟩
theorem txs : Statement .txs := ⟨rfl, rfl, _, rfl, rfl, rfl⟩
theorem sec : Statement .sec := ⟨rfl, rfl, _, rfl, rfl, rfl⟩
theorem clc : Statement .clc := ⟨rfl, rfl, _, rfl, rfl, rfl⟩
theorem sed : Statement .sed := ⟨rfl, rfl, _, rfl, rfl, rfl⟩
theorem cld : Statement .cld := ⟨rfl, rfl, _, rfl, rfl, rfl⟩
theorem sei : Statement .sei := ⟨rfl, rfl, _, rfl, rfl, rfl⟩
theorem cli : Statement .cli := ⟨rfl, rfl, _, rfl, rfl, rfl⟩
theorem clv : Statement .clv := ⟨rfl, rfl, _, rfl, rfl, rfl⟩

end Sys2Proof.Laws.FormTable
end

