-- ==== Sys2Proof/Laws/Step.lean ====
section
/-! SUPPORT. What a step can do: one inversion lemma for each outcome of `step`, and when a fetch
finds an instruction. -/

namespace Sys2Proof.Machine

/-- The three bytes of a fetch are enough for any instruction: only an undefined opcode is not
decoded. -/
theorem fetchInstr_eq_none {s : State} :
    fetchInstr s = none ↔ lookupOpcode (s.readByte s.pc) = none := by
  unfold fetchInstr fetchBytes
  cases h : lookupOpcode (s.readByte s.pc) with
  | none => simp [decode_of_undefined h]
  | some b => rw [decode_of_defined h]; cases b <;> simp [finish]

theorem fetchInstr_of_decode {s : State} {i : Instr} {rest : List Byte}
    (h : decode (fetchBytes s) = .ok (i, rest)) : fetchInstr s = some i := by
  simp [fetchInstr, h]

theorem step_halted {s : State} (h : s.running = false) : step s = stepHalted s := by
  simp [step, h]

theorem step_of_fetch {s : State} {i : Instr} (hr : s.running = true) (h : fetchInstr s = some i) :
    step s = exec i (advancePC i s) := by
  simp [step, hr, h]

theorem step_of_no_fetch {s : State} (hr : s.running = true) (h : fetchInstr s = none) :
    step s = decodeErrorAt s := by
  simp [step, hr, h]

/-- A step that answers a next state either leaves a halted state as it is or runs the instruction
at PC. -/
theorem step_next_cases {s t : State} (h : step s = .next t) :
    (s.running = false ∧ t = s) ∨
      (s.running = true ∧ ∃ i, fetchInstr s = some i ∧ exec i (advancePC i s) = .next t) := by
  cases hr : s.running with
  | false =>
    rw [step_halted hr] at h
    exact .inl ⟨rfl, by simpa [stepHalted] using h.symm⟩
  | true =>
    cases hf : fetchInstr s with
    | none => rw [step_of_no_fetch hr hf] at h; simp [decodeErrorAt] at h
    | some i => exact .inr ⟨rfl, i, rfl, by rwa [step_of_fetch hr hf] at h⟩

end Sys2Proof.Machine
end

