-- ==== Sys2Proof/Tests/Slice0.lean ====
section
/-! SUPPORT. Tests.  Expected values come from the spec: the Encoding lines and Operands lines of files
40 to 49 for decoding and well-formedness, the vectors of 95_test_vectors.md (named in each test) for
steps.  Then one witness for each statement that has hypotheses. -/

namespace Sys2Proof.Tests

open Sys2Proof.Machine

/-! ### Well-formedness (R77) and assembling (R84) -/

/-- Ill-formed forms, one or more for each list of accepted modes: each is refused. -/
def illFormed : List Form := [
  ⟨.lda, .relative⟩, ⟨.ldx, .zeropageX⟩, ⟨.ldy, .zeropageY⟩, ⟨.sta, .immediate⟩, ⟨.stx, .absoluteY⟩,
  ⟨.sty, .absoluteX⟩, ⟨.inc, .accumulator⟩, ⟨.asl, .absoluteY⟩, ⟨.cpx, .zeropageX⟩, ⟨.bit, .immediate⟩,
  ⟨.bne, .absolute⟩, ⟨.jmp, .indirectX⟩, ⟨.jsr, .indirect⟩, ⟨.brk, .immediate⟩, ⟨.eor, .indirect⟩]

theorem test_ill_formed_refused : illFormed.any Form.wellFormed = false := by decide

theorem test_sta_immediate_refused : Form.wellFormed ⟨.sta, .immediate⟩ = false := by decide

/-- R79: 151 accepted pairs. -/
def allMnemonics : List Mnemonic := [
  .lda, .ldx, .ldy, .sta, .stx, .sty, .ora, .and, .eor, .inc, .dec, .inx, .iny, .dex, .dey,
  .asl, .lsr, .rol, .ror, .adc, .sbc, .cmp, .cpx, .cpy, .bit, .bcc, .bcs, .beq, .bmi, .bne,
  .bpl, .bvc, .bvs, .jmp, .jsr, .rts, .pha, .pla, .php, .plp, .rti, .brk, .nop, .tax, .txa,
  .tay, .tya, .tsx, .txs, .sec, .clc, .sed, .cld, .sei, .cli, .clv]

theorem test_accepted_forms_count :
    (allMnemonics.map fun m => (acceptedModes m).length).sum = 151 := by decide

/-- R84: 127 forward and 128 back from the next instruction are the farthest; one more is refused. -/
theorem test_encode_relative_range :
    encodeRelative 0x0300 0x0381 = some 0x7F ∧ encodeRelative 0x0300 0x0282 = some 0x80 ∧
    encodeRelative 0x0300 0x0382 = none ∧ encodeRelative 0x0300 0x0281 = none := by decide

/-! ### Decoding -/

/-- Whether the bytes, with one more after them, decode to the instruction and leave that one, and
whether the instruction is well-formed and encodes to the bytes. -/
def readsAs (p : Instr × List Byte) : Bool :=
  match decode (p.2 ++ [0x5A]) with
  | .ok (i, rest) => i == p.1 && rest == [0x5A] && encode p.1 == p.2 && p.1.wellFormed
  | .error _ => false

/-- The words of 40_load_store.md, from its Encoding lines. -/
def words_load_store : List (Instr × List Byte) := [
  (.ldaImmediate 0x9C, [0xA9, 0x9C]), (.ldaZeropage 0x9C, [0xA5, 0x9C]),
  (.ldaZeropageX 0x9C, [0xB5, 0x9C]), (.ldaAbsolute 0x1234, [0xAD, 0x34, 0x12]),
  (.ldaAbsoluteX 0x1234, [0xBD, 0x34, 0x12]), (.ldaAbsoluteY 0x1234, [0xB9, 0x34, 0x12]),
  (.ldaIndirectX 0x9C, [0xA1, 0x9C]), (.ldaIndirectY 0x9C, [0xB1, 0x9C]),
  (.ldxImmediate 0x9C, [0xA2, 0x9C]), (.ldxZeropage 0x9C, [0xA6, 0x9C]),
  (.ldxZeropageY 0x9C, [0xB6, 0x9C]), (.ldxAbsolute 0x1234, [0xAE, 0x34, 0x12]),
  (.ldxAbsoluteY 0x1234, [0xBE, 0x34, 0x12]), (.ldyImmediate 0x9C, [0xA0, 0x9C]),
  (.ldyZeropage 0x9C, [0xA4, 0x9C]), (.ldyZeropageX 0x9C, [0xB4, 0x9C]),
  (.ldyAbsolute 0x1234, [0xAC, 0x34, 0x12]), (.ldyAbsoluteX 0x1234, [0xBC, 0x34, 0x12]),
  (.staZeropage 0x9C, [0x85, 0x9C]), (.staZeropageX 0x9C, [0x95, 0x9C]),
  (.staAbsolute 0x1234, [0x8D, 0x34, 0x12]), (.staAbsoluteX 0x1234, [0x9D, 0x34, 0x12]),
  (.staAbsoluteY 0x1234, [0x99, 0x34, 0x12]), (.staIndirectX 0x9C, [0x81, 0x9C]),
  (.staIndirectY 0x9C, [0x91, 0x9C]), (.stxZeropage 0x9C, [0x86, 0x9C]),
  (.stxZeropageY 0x9C, [0x96, 0x9C]), (.stxAbsolute 0x1234, [0x8E, 0x34, 0x12]),
  (.styZeropage 0x9C, [0x84, 0x9C]), (.styZeropageX 0x9C, [0x94, 0x9C]),
  (.styAbsolute 0x1234, [0x8C, 0x34, 0x12])]

theorem test_decode_load_store : words_load_store.all readsAs = true := by rfl

/-- The words of 41_logic.md, from its Encoding lines. -/
def words_logic : List (Instr × List Byte) := [
  (.oraImmediate 0x9C, [0x09, 0x9C]), (.oraZeropage 0x9C, [0x05, 0x9C]),
  (.oraZeropageX 0x9C, [0x15, 0x9C]), (.oraAbsolute 0x1234, [0x0D, 0x34, 0x12]),
  (.oraAbsoluteX 0x1234, [0x1D, 0x34, 0x12]), (.oraAbsoluteY 0x1234, [0x19, 0x34, 0x12]),
  (.oraIndirectX 0x9C, [0x01, 0x9C]), (.oraIndirectY 0x9C, [0x11, 0x9C]),
  (.andImmediate 0x9C, [0x29, 0x9C]), (.andZeropage 0x9C, [0x25, 0x9C]),
  (.andZeropageX 0x9C, [0x35, 0x9C]), (.andAbsolute 0x1234, [0x2D, 0x34, 0x12]),
  (.andAbsoluteX 0x1234, [0x3D, 0x34, 0x12]), (.andAbsoluteY 0x1234, [0x39, 0x34, 0x12]),
  (.andIndirectX 0x9C, [0x21, 0x9C]), (.andIndirectY 0x9C, [0x31, 0x9C]),
  (.eorImmediate 0x9C, [0x49, 0x9C]), (.eorZeropage 0x9C, [0x45, 0x9C]),
  (.eorZeropageX 0x9C, [0x55, 0x9C]), (.eorAbsolute 0x1234, [0x4D, 0x34, 0x12]),
  (.eorAbsoluteX 0x1234, [0x5D, 0x34, 0x12]), (.eorAbsoluteY 0x1234, [0x59, 0x34, 0x12]),
  (.eorIndirectX 0x9C, [0x41, 0x9C]), (.eorIndirectY 0x9C, [0x51, 0x9C])]

theorem test_decode_logic : words_logic.all readsAs = true := by rfl

/-- The words of 42_inc_dec.md, from its Encoding lines. -/
def words_inc_dec : List (Instr × List Byte) := [
  (.incZeropage 0x9C, [0xE6, 0x9C]), (.incZeropageX 0x9C, [0xF6, 0x9C]),
  (.incAbsolute 0x1234, [0xEE, 0x34, 0x12]), (.incAbsoluteX 0x1234, [0xFE, 0x34, 0x12]),
  (.decZeropage 0x9C, [0xC6, 0x9C]), (.decZeropageX 0x9C, [0xD6, 0x9C]),
  (.decAbsolute 0x1234, [0xCE, 0x34, 0x12]), (.decAbsoluteX 0x1234, [0xDE, 0x34, 0x12]),
  (.inx, [0xE8]), (.iny, [0xC8]), (.dex, [0xCA]), (.dey, [0x88])]

theorem test_decode_inc_dec : words_inc_dec.all readsAs = true := by rfl

/-- The words of 43_shifts.md, from its Encoding lines. -/
def words_shifts : List (Instr × List Byte) := [
  (.aslAccumulator, [0x0A]), (.aslZeropage 0x9C, [0x06, 0x9C]), (.aslZeropageX 0x9C, [0x16, 0x9C]),
  (.aslAbsolute 0x1234, [0x0E, 0x34, 0x12]), (.aslAbsoluteX 0x1234, [0x1E, 0x34, 0x12]),
  (.lsrAccumulator, [0x4A]), (.lsrZeropage 0x9C, [0x46, 0x9C]), (.lsrZeropageX 0x9C, [0x56, 0x9C]),
  (.lsrAbsolute 0x1234, [0x4E, 0x34, 0x12]), (.lsrAbsoluteX 0x1234, [0x5E, 0x34, 0x12]),
  (.rolAccumulator, [0x2A]), (.rolZeropage 0x9C, [0x26, 0x9C]), (.rolZeropageX 0x9C, [0x36, 0x9C]),
  (.rolAbsolute 0x1234, [0x2E, 0x34, 0x12]), (.rolAbsoluteX 0x1234, [0x3E, 0x34, 0x12]),
  (.rorAccumulator, [0x6A]), (.rorZeropage 0x9C, [0x66, 0x9C]), (.rorZeropageX 0x9C, [0x76, 0x9C]),
  (.rorAbsolute 0x1234, [0x6E, 0x34, 0x12]), (.rorAbsoluteX 0x1234, [0x7E, 0x34, 0x12])]

theorem test_decode_shifts : words_shifts.all readsAs = true := by rfl

/-- The words of 44_arith_compare.md, from its Encoding lines. -/
def words_arith_compare : List (Instr × List Byte) := [
  (.adcImmediate 0x9C, [0x69, 0x9C]), (.adcZeropage 0x9C, [0x65, 0x9C]),
  (.adcZeropageX 0x9C, [0x75, 0x9C]), (.adcAbsolute 0x1234, [0x6D, 0x34, 0x12]),
  (.adcAbsoluteX 0x1234, [0x7D, 0x34, 0x12]), (.adcAbsoluteY 0x1234, [0x79, 0x34, 0x12]),
  (.adcIndirectX 0x9C, [0x61, 0x9C]), (.adcIndirectY 0x9C, [0x71, 0x9C]),
  (.sbcImmediate 0x9C, [0xE9, 0x9C]), (.sbcZeropage 0x9C, [0xE5, 0x9C]),
  (.sbcZeropageX 0x9C, [0xF5, 0x9C]), (.sbcAbsolute 0x1234, [0xED, 0x34, 0x12]),
  (.sbcAbsoluteX 0x1234, [0xFD, 0x34, 0x12]), (.sbcAbsoluteY 0x1234, [0xF9, 0x34, 0x12]),
  (.sbcIndirectX 0x9C, [0xE1, 0x9C]), (.sbcIndirectY 0x9C, [0xF1, 0x9C]),
  (.cmpImmediate 0x9C, [0xC9, 0x9C]), (.cmpZeropage 0x9C, [0xC5, 0x9C]),
  (.cmpZeropageX 0x9C, [0xD5, 0x9C]), (.cmpAbsolute 0x1234, [0xCD, 0x34, 0x12]),
  (.cmpAbsoluteX 0x1234, [0xDD, 0x34, 0x12]), (.cmpAbsoluteY 0x1234, [0xD9, 0x34, 0x12]),
  (.cmpIndirectX 0x9C, [0xC1, 0x9C]), (.cmpIndirectY 0x9C, [0xD1, 0x9C]),
  (.cpxImmediate 0x9C, [0xE0, 0x9C]), (.cpxZeropage 0x9C, [0xE4, 0x9C]),
  (.cpxAbsolute 0x1234, [0xEC, 0x34, 0x12]), (.cpyImmediate 0x9C, [0xC0, 0x9C]),
  (.cpyZeropage 0x9C, [0xC4, 0x9C]), (.cpyAbsolute 0x1234, [0xCC, 0x34, 0x12]),
  (.bitZeropage 0x9C, [0x24, 0x9C]), (.bitAbsolute 0x1234, [0x2C, 0x34, 0x12])]

theorem test_decode_arith_compare : words_arith_compare.all readsAs = true := by rfl

/-- The words of 45_control.md, from its Encoding lines. -/
def words_control : List (Instr × List Byte) := [
  (.bcc 0x80, [0x90, 0x80]), (.bcs 0x80, [0xB0, 0x80]), (.beq 0x80, [0xF0, 0x80]),
  (.bmi 0x80, [0x30, 0x80]), (.bne 0x80, [0xD0, 0x80]), (.bpl 0x80, [0x10, 0x80]),
  (.bvc 0x80, [0x50, 0x80]), (.bvs 0x80, [0x70, 0x80]), (.jmpAbsolute 0x1234, [0x4C, 0x34, 0x12]),
  (.jmpIndirect 0x1234, [0x6C, 0x34, 0x12]), (.jsr 0x1234, [0x20, 0x34, 0x12]), (.rts, [0x60])]

theorem test_decode_control : words_control.all readsAs = true := by rfl

/-- The words of 46_stack.md, from its Encoding lines. -/
def words_stack : List (Instr × List Byte) := [
  (.pha, [0x48]), (.pla, [0x68]), (.php, [0x08]), (.plp, [0x28]), (.rti, [0x40])]

theorem test_decode_stack : words_stack.all readsAs = true := by rfl

/-- The words of 47_brk_nop.md, from its Encoding lines. -/
def words_brk_nop : List (Instr × List Byte) := [
  (.brk, [0x00]), (.nop, [0xEA])]

theorem test_decode_brk_nop : words_brk_nop.all readsAs = true := by rfl

/-- The words of 48_transfers.md, from its Encoding lines. -/
def words_transfers : List (Instr × List Byte) := [
  (.tax, [0xAA]), (.txa, [0x8A]), (.tay, [0xA8]), (.tya, [0x98]), (.tsx, [0xBA]), (.txs, [0x9A])]

theorem test_decode_transfers : words_transfers.all readsAs = true := by rfl

/-- The words of 49_flag_ops.md, from its Encoding lines. -/
def words_flag_ops : List (Instr × List Byte) := [
  (.sec, [0x38]), (.clc, [0x18]), (.sed, [0xF8]), (.cld, [0xD8]), (.sei, [0x78]), (.cli, [0x58]),
  (.clv, [0xB8])]

theorem test_decode_flag_ops : words_flag_ops.all readsAs = true := by rfl

/-- R79, R81: the words above and the undefined opcodes are as many as the bytes. -/
theorem test_opcode_count :
    words_load_store.length + words_logic.length + words_inc_dec.length + words_shifts.length +
      words_arith_compare.length + words_control.length + words_stack.length +
      words_brk_nop.length + words_transfers.length + words_flag_ops.length = 151 ∧
    undefinedOpcodes.length = 105 := by decide

/-- The name a rejection carries. -/
def rejectOf (bs : List Byte) : Option DecodeReject :=
  match decode bs with
  | .ok _ => none
  | .error r => some r

theorem test_decode_rejects_by_name :
    rejectOf [] = some .noBytes ∧ rejectOf [0x89, 0x00] = some (.undefinedOpcode 0x89) ∧
    rejectOf [0xA9] = some (.missingOperand 0xA9) ∧
    rejectOf [0x4C, 0x34] = some (.missingOperand 0x4C) := by decide

/-- The table's numbering: the second byte of `JMP $1234` is bits 15..8. -/
theorem test_decode_table_word :
    decodeTableWord 24 0x12344C = some (.jmpAbsolute 0x1234) ∧
    decodeTableWord 8 0xEA = some .nop ∧ decodeTableWord 8 0x02 = none := by decide

/-! ### One step (95_test_vectors.md) -/

/-- The state before a vector, unless it says otherwise: reset, with PC at $0200. -/
def base : State := { State.reset with pc := 0x0200 }

/-- Store bytes at addresses. -/
def poke (cells : List (Word × Byte)) (s : State) : State :=
  cells.foldl (fun t c => t.writeByte c.1 c.2) s

/-- The next state of an outcome. -/
def nextOf : Result → Option State
  | .next t => some t
  | .fault _ => none
  | .refused _ => none

/-- The fault of an outcome. -/
def faultOf : Result → Option Fault
  | .next _ => none
  | .fault r => some r
  | .refused _ => none

/-- Store an instruction's bytes at PC and take one step. -/
def stepOn (code : List Byte) (s : State) : Option State := nextOf (step (storeBytes s.pc code s))

/-- Flags from C, Z, V, N, with I, D, B clear. -/
def flagsOf (c z v n : Bool) : Flags :=
  { c := c, z := z, i := false, d := false, b := false, u := true, v := v, n := n }

/-- AM1 -/
theorem test_lda_zeropageX :
    (stepOn [0xB5, 0x04] (poke [(0x0003, 0x77)] { base with x := 0xFF })).map State.a =
      some 0x77 := by decide

/-- AM2 -/
theorem test_ldx_zeropageY :
    (stepOn [0xB6, 0xF0] (poke [(0x0010, 0x66)] { base with y := 0x20 })).map State.x =
      some 0x66 := by decide

/-- AM3 -/
theorem test_sta_absoluteX :
    (stepOn [0x9D, 0xF0, 0xFF] { base with x := 0x20, a := 0x5A }).map (·.readByte 0x0010) =
      some 0x5A := by decide

/-- AM4 -/
theorem test_lda_absoluteY :
    (stepOn [0xB9, 0xF0, 0x12] (poke [(0x1310, 0x44)] { base with y := 0x20 })).map State.a =
      some 0x44 := by decide

/-- AM5 -/
theorem test_lda_indirectX :
    (stepOn [0xA1, 0xFE]
      (poke [(0x00FF, 0x10), (0x0000, 0xA2), (0xA210, 0xC3)] { base with x := 0x01 })).map
      (fun t => (t.a, t.flags)) = some (0xC3, flagsOf false false false true) := by decide

/-- AM6 -/
theorem test_lda_indirectY_pointer_wraps :
    (stepOn [0xB1, 0xFF]
      (poke [(0x00FF, 0x00), (0x0000, 0x30), (0x3002, 0x99)] { base with y := 0x02 })).map State.a =
      some 0x99 := by decide

/-- AM7 -/
theorem test_lda_indirectY_sum_wraps :
    (stepOn [0xB1, 0x40]
      (poke [(0x40, 0xF0), (0x41, 0xFF), (0x0010, 0x55)] { base with y := 0x20 })).map State.a =
      some 0x55 := by decide

/-- AM8 -/
theorem test_jmp_indirect_bug :
    (stepOn [0x6C, 0xFF, 0x02]
      (poke [(0x02FF, 0x20), (0x0200, 0x00), (0x0300, 0x40)] { base with pc := 0x0400 })).map
      State.pc = some 0x0020 := by decide

/-- AM9 -/
theorem test_jmp_indirect_top :
    (stepOn [0x6C, 0xFF, 0xFF]
      (poke [(0xFFFF, 0x34), (0xFF00, 0x12), (0x0000, 0x99)] { base with pc := 0x0400 })).map
      State.pc = some 0x1234 := by decide

/-- JP1 -/
theorem test_jmp_absolute :
    (stepOn [0x4C, 0x34, 0x12] base).map State.pc = some 0x1234 := by decide

/-- AM11 -/
theorem test_lda_immediate :
    (stepOn [0xA9, 0x80] base).map (fun t => (t.a, t.pc, t.flags)) =
      some (0x80, 0x0202, flagsOf false false false true) := by decide

/-- LS2 -/
theorem test_ldx_immediate :
    (stepOn [0xA2, 0xFF] base).map (fun t => (t.x, t.flags)) =
      some (0xFF, flagsOf false false false true) := by decide

/-- LS3 -/
theorem test_ldy_zeropage :
    (stepOn [0xA4, 0x10] (poke [(0x10, 0x7F)] base)).map (fun t => (t.y, t.flags)) =
      some (0x7F, flagsOf false false false false) := by decide

/-- LS4 -/
theorem test_sta_zeropageX :
    (stepOn [0x95, 0x04]
      { base with a := 0x5A, x := 0xFF, flags := flagsOf false true false true }).map
      (fun t => (t.readByte 0x0003, t.flags)) =
      some (0x5A, flagsOf false true false true) := by decide

/-- LS5 -/
theorem test_stx_absolute :
    (stepOn [0x8E, 0x00, 0x03] { base with x := 0x33 }).map (·.readByte 0x0300) =
      some 0x33 := by decide

/-- LS6 -/
theorem test_sty_zeropageX :
    (stepOn [0x94, 0xF8] { base with y := 0x07, x := 0x10 }).map (·.readByte 0x0008) =
      some 0x07 := by decide

/-- LG1, LG3, LG5: with C and V set, which stay. -/
theorem test_logic :
    (stepOn [0x09, 0x0F] { base with a := 0xF0, flags := flagsOf true false true false }).map
      (fun t => (t.a, t.flags)) = some (0xFF, flagsOf true false true true) ∧
    (stepOn [0x29, 0x0F] { base with a := 0xF0, flags := flagsOf true false true false }).map
      (fun t => (t.a, t.flags)) = some (0x00, flagsOf true true true false) ∧
    (stepOn [0x49, 0xFF] { base with a := 0xFF, flags := flagsOf true false true false }).map
      (fun t => (t.a, t.flags)) = some (0x00, flagsOf true true true false) := by decide

/-- ID1 -/
theorem test_inc :
    (stepOn [0xE6, 0x90] (poke [(0x90, 0xFF)] base)).map (fun t => (t.readByte 0x90, t.flags)) =
      some (0x00, flagsOf false true false false) := by decide

/-- ID3 -/
theorem test_dec :
    (stepOn [0xCE, 0x00, 0x03] (poke [(0x0300, 0x80)] base)).map
      (fun t => (t.readByte 0x0300, t.flags)) =
      some (0x7F, flagsOf false false false false) := by decide

/-- ID4 to ID7 -/
theorem test_index_inc_dec :
    (stepOn [0xE8] { base with x := 0xFF }).map (fun t => (t.x, t.flags)) =
      some (0x00, flagsOf false true false false) ∧
    (stepOn [0xCA] { base with x := 0x00 }).map (fun t => (t.x, t.flags)) =
      some (0xFF, flagsOf false false false true) ∧
    (stepOn [0xC8] { base with y := 0x7F }).map (fun t => (t.y, t.flags)) =
      some (0x80, flagsOf false false false true) ∧
    (stepOn [0x88] { base with y := 0x01 }).map (fun t => (t.y, t.flags)) =
      some (0x00, flagsOf false true false false) := by decide

/-- SH3 -/
theorem test_asl_accumulator :
    (stepOn [0x0A] { base with a := 0xFF, flags := flagsOf true false false false }).map
      (fun t => (t.a, t.flags)) = some (0xFE, flagsOf true false false true) := by decide

/-- SH14 -/
theorem test_asl_memory :
    (stepOn [0x06, 0x10] (poke [(0x10, 0x81)] base)).map
      (fun t => (t.readByte 0x10, t.a, t.flags)) =
      some (0x02, 0x00, flagsOf true false false false) := by decide

/-- SH6 -/
theorem test_lsr :
    (stepOn [0x4A] { base with a := 0xC3 }).map (fun t => (t.a, t.flags)) =
      some (0x61, flagsOf true false false false) := by decide

/-- SH9 -/
theorem test_rol :
    (stepOn [0x2A] { base with a := 0xB0, flags := flagsOf true false false false }).map
      (fun t => (t.a, t.flags)) = some (0x61, flagsOf true false false false) := by decide

/-- SH13 -/
theorem test_ror :
    (stepOn [0x6A] { base with a := 0x61, flags := flagsOf true false false false }).map
      (fun t => (t.a, t.flags)) = some (0xB0, flagsOf true false false true) := by decide

/-- AD4 -/
theorem test_adc :
    (stepOn [0x69, 0x80] { base with a := 0x80 }).map (fun t => (t.a, t.flags)) =
      some (0x00, flagsOf true true true false) := by decide

/-- AD11: D set -/
theorem test_adc_decimal :
    (stepOn [0x69, 0x50]
      { base with a := 0x50, flags := { flagsOf false false false false with d := true } }).map
      (fun t => (t.a, t.flags)) =
      some (0xA0, { flagsOf false false true true with d := true }) := by decide

/-- SB4 -/
theorem test_sbc_borrow_in :
    (stepOn [0xE9, 0x70] { base with a := 0xD0 }).map (fun t => (t.a, t.flags)) =
      some (0x5F, flagsOf true false true false) := by decide

/-- SB6 -/
theorem test_sbc_borrow_out :
    (stepOn [0xE9, 0x00] { base with a := 0x00 }).map (fun t => (t.a, t.flags)) =
      some (0xFF, flagsOf false false false true) := by decide

/-- CP4, CP5 -/
theorem test_cmp :
    (stepOn [0xC9, 0xFF] { base with a := 0x00 }).map (fun t => (t.a, t.flags)) =
      some (0x00, flagsOf false false false false) ∧
    (stepOn [0xC9, 0x00] { base with a := 0xFF }).map (fun t => (t.a, t.flags)) =
      some (0xFF, flagsOf true false false true) := by decide

/-- CP6, CP7 -/
theorem test_cpx_cpy :
    (stepOn [0xE0, 0x01] { base with x := 0x80 }).map State.flags =
      some (flagsOf true false false false) ∧
    (stepOn [0xC0, 0x80] { base with y := 0x01 }).map State.flags =
      some (flagsOf false false false true) := by decide

/-- BT3, BT4 -/
theorem test_bit :
    (stepOn [0x24, 0x10] (poke [(0x10, 0x41)] { base with a := 0x01 })).map
      (fun t => (t.a, t.flags)) = some (0x01, flagsOf false false true false) ∧
    (stepOn [0x24, 0x10] (poke [(0x10, 0xC0)] base)).map
      (fun t => (t.a, t.flags)) = some (0x00, flagsOf false true true true) := by decide

/-- BR1 to BR4 -/
theorem test_branches :
    (stepOn [0x90, 0x02] { base with pc := 0x0010 }).map State.pc = some 0x0014 ∧
    (stepOn [0xB0, 0x02] { base with pc := 0x0010 }).map State.pc = some 0x0012 ∧
    (stepOn [0xF0, 0x80] { base with pc := 0x0300, flags := flagsOf false true false false }).map
      State.pc = some 0x0282 ∧
    (stepOn [0x30, 0x7F] { base with pc := 0x0300, flags := flagsOf false false false true }).map
      State.pc = some 0x0381 := by decide

/-- BR5 to BR8 -/
theorem test_more_branches :
    (stepOn [0xD0, 0xFB] { base with pc := 0x0008 }).map State.pc = some 0x0005 ∧
    (stepOn [0x10, 0x20] { base with pc := 0xFFF0 }).map State.pc = some 0x0012 ∧
    (stepOn [0x50, 0x10] { base with pc := 0x0400, flags := flagsOf false false true false }).map
      State.pc = some 0x0402 ∧
    (stepOn [0x70, 0x01] { base with pc := 0x0012, flags := flagsOf false false true false }).map
      State.pc = some 0x0015 := by decide

/-- S7a: the JSR at $FFFF. -/
theorem test_jsr_at_top :
    (stepOn [0x20, 0x23, 0x01] { base with pc := 0xFFFF }).map
      (fun t => (t.readByte 0x01FF, t.readByte 0x01FE, t.sp, t.pc)) =
      some (0x00, 0x01, 0xFD, 0x0123) := by decide

/-- SR3 -/
theorem test_jsr_stack_wraps :
    (stepOn [0x20, 0x34, 0x12] { base with sp := 0x00 }).map
      (fun t => (t.readByte 0x0100, t.readByte 0x01FF, t.sp, t.pc)) =
      some (0x02, 0x02, 0xFE, 0x1234) := by decide

/-- SR4, in the state after SR3 -/
theorem test_rts :
    (stepOn [0x60]
      (poke [(0x0100, 0x02), (0x01FF, 0x02)] { base with sp := 0xFE, pc := 0x1234 })).map
      (fun t => (t.sp, t.pc)) = some (0x00, 0x0203) := by decide

/-- ST1 -/
theorem test_pha :
    (stepOn [0x48] { base with a := 0x80, sp := 0x00 }).map (fun t => (t.readByte 0x0100, t.sp)) =
      some (0x80, 0xFF) := by decide

/-- ST2 -/
theorem test_pla :
    (stepOn [0x68] (poke [(0x0100, 0x80)] base)).map (fun t => (t.a, t.sp, t.flags)) =
      some (0x80, 0x00, flagsOf false false false true) := by decide

/-- ST3 -/
theorem test_php :
    (stepOn [0x08] base).map (fun t => (t.readByte 0x01FF, t.sp)) =
      some (0x30, 0xFE) := by decide

/-- ST5 -/
theorem test_plp_ones :
    (stepOn [0x28] (poke [(0x01FF, 0xFF)] { base with sp := 0xFE })).map
      (fun t => (t.flags, t.sp, flagsAsByte t)) =
      some ({ flagsOf true true true true with i := true, d := true }, 0xFF, 0xFF) := by
  decide

/-- ST6 -/
theorem test_plp_zeros :
    (stepOn [0x28]
      { base with sp := 0xFE, flags := { flagsOf true false false true with b := true } }).map
      (fun t => (t.flags, t.sp, flagsAsByte t)) =
      some ({ flagsOf false false false false with b := true }, 0xFF, 0x30) := by decide

/-- ST7 -/
theorem test_rti :
    (stepOn [0x40] (poke [(0x01FD, 0xC3), (0x01FE, 0x10)] { base with sp := 0xFC })).map
      (fun t => (t.flags, t.pc, t.sp, flagsAsByte t)) =
      some (flagsOf true true true true, 0x0010, 0xFF, 0xF3) := by decide

/-- TR1 to TR3 -/
theorem test_transfers :
    (stepOn [0xAA] { base with x := 0x55 }).map (fun t => (t.x, t.flags)) =
      some (0x00, flagsOf false true false false) ∧
    (stepOn [0x8A] { base with x := 0x80 }).map (fun t => (t.a, t.flags)) =
      some (0x80, flagsOf false false false true) ∧
    (stepOn [0xA8] { base with a := 0x33 }).map (fun t => (t.y, t.flags)) =
      some (0x33, flagsOf false false false false) := by decide

/-- TR4 to TR6 -/
theorem test_more_transfers :
    (stepOn [0x98] { base with y := 0xFF }).map (fun t => (t.a, t.flags)) =
      some (0xFF, flagsOf false false false true) ∧
    (stepOn [0xBA] { base with sp := 0x80 }).map (fun t => (t.x, t.flags)) =
      some (0x80, flagsOf false false false true) ∧
    (stepOn [0x9A] { base with x := 0x00 }).map (fun t => (t.sp, t.flags)) =
      some (0x00, flagsOf false false false false) := by decide

/-- FL1 to FL4 -/
theorem test_flag_instructions :
    (stepOn [0x38] base).map (·.flags.c) = some true ∧
    (stepOn [0x18] { base with flags := flagsOf true false false false }).map (·.flags.c) =
      some false ∧
    (stepOn [0xF8] base).map (·.flags.d) = some true ∧
    (stepOn [0xD8] { base with flags := { Flags.reset with d := true } }).map (·.flags.d) =
      some false ∧
    (stepOn [0x78] base).map (·.flags.i) = some true ∧
    (stepOn [0x58] { base with flags := { Flags.reset with i := true } }).map (·.flags.i) =
      some false ∧
    (stepOn [0xB8] { base with flags := flagsOf false false true false }).map (·.flags.v) =
      some false := by decide

/-- SY1; BRK's byte is $00, so memory lists nothing. -/
theorem test_brk :
    stepOn [0x00] { base with pc := 0x0400, sp := 0xF0 } =
      some { base with
        pc := 0x0401, sp := 0xF0, running := false
        flags := { Flags.reset with b := true } } := by decide

/-- SY2 -/
theorem test_nop :
    stepOn [0xEA] base = some { base with pc := 0x0201, mem := [(0x0200, 0xEA)] } := by
  decide

/-- SY3, SY4 -/
theorem test_decode_error :
    faultOf (step (poke [(0x0300, 0xFF)] { base with pc := 0x0300 })) =
      some (.decodeError 0xFF 0x0300) ∧
    faultOf (step (poke [(0x0000, 0x02)] State.reset)) = some (.decodeError 0x02 0x0000) := by
  decide

/-- From `State.reset` with nothing placed, the first step runs the $00 at $0000: BRK (log 12). -/
theorem test_step_from_reset :
    (nextOf (step State.reset)).map (fun t => (t.pc, t.running)) = some (0x0001, false) := by
  decide

/-- Two rows of the opcode table run as the first instruction after reset. -/
theorem test_with_fetch_word :
    (nextOf (step (State.reset.withFetchWord 16 0x8069))).map State.a = some 0x80 ∧
    (nextOf (step (State.reset.withFetchWord 8 0x98))).map State.pc = some 0x0001 := by
  decide

/-! ### Tables of vectors over the flag computations -/

/-- AD1 to AD10: A, C in, m, A out, C, Z, V, N. -/
theorem test_adc_vectors :
    ([(0x00, false, 0x00, 0x00, false, true, false, false),
      (0xFF, false, 0x01, 0x00, true, true, false, false),
      (0xFF, true, 0xFF, 0xFF, true, false, false, true),
      (0x80, false, 0x80, 0x00, true, true, true, false),
      (0x7F, false, 0x01, 0x80, false, false, true, true),
      (0x7F, true, 0x7F, 0xFF, false, false, true, true),
      (0x01, true, 0xFF, 0x01, true, false, false, false),
      (0x80, true, 0xFF, 0x80, true, false, false, true),
      (0x50, false, 0x50, 0xA0, false, false, true, true),
      (0xD0, false, 0x90, 0x60, true, false, true, false)] :
      List (Byte × Bool × Byte × Byte × Bool × Bool × Bool × Bool)).all
      (fun (a, ci, m, r, c, z, v, n) =>
        (nextOf (exec (.adcImmediate m)
          { base with a := a, flags := flagsOf ci false false false })).map
          (fun t => (t.a, t.flags)) == some (r, flagsOf c z v n)) = true := by decide

/-- SB1 to SB11: A, C in, m, A out, C, Z, V, N. -/
theorem test_sbc_vectors :
    ([(0x50, true, 0xF0, 0x60, false, false, false, false),
      (0x50, true, 0xB0, 0xA0, false, false, true, true),
      (0xD0, true, 0x70, 0x60, true, false, true, false),
      (0xD0, false, 0x70, 0x5F, true, false, true, false),
      (0x00, true, 0x00, 0x00, true, true, false, false),
      (0x00, false, 0x00, 0xFF, false, false, false, true),
      (0x80, true, 0x01, 0x7F, true, false, true, false),
      (0x7F, true, 0xFF, 0x80, false, false, true, true),
      (0x05, true, 0x03, 0x02, true, false, false, false),
      (0x03, true, 0x05, 0xFE, false, false, false, true),
      (0x80, false, 0x00, 0x7F, true, false, true, false)] :
      List (Byte × Bool × Byte × Byte × Bool × Bool × Bool × Bool)).all
      (fun (a, ci, m, r, c, z, v, n) =>
        (nextOf (exec (.sbcImmediate m)
          { base with a := a, flags := flagsOf ci false false false })).map
          (fun t => (t.a, t.flags)) == some (r, flagsOf c z v n)) = true := by decide

/-- SH1 to SH13: the opcode, A and C before, A, C, Z, N after. -/
theorem test_shift_vectors :
    ([(0x0A, 0x80, false, 0x00, true, true, false), (0x0A, 0x40, false, 0x80, false, false, true),
      (0x0A, 0xFF, true, 0xFE, true, false, true), (0x4A, 0x01, false, 0x00, true, true, false),
      (0x4A, 0xFF, false, 0x7F, true, false, false), (0x4A, 0xC3, false, 0x61, true, false, false),
      (0x2A, 0x80, false, 0x00, true, true, false), (0x2A, 0x00, true, 0x01, false, false, false),
      (0x2A, 0xB0, true, 0x61, true, false, false), (0x6A, 0x01, false, 0x00, true, true, false),
      (0x6A, 0x00, true, 0x80, false, false, true), (0x6A, 0xFF, true, 0xFF, true, false, true),
      (0x6A, 0x61, true, 0xB0, true, false, true)] :
      List (Byte × Byte × Bool × Byte × Bool × Bool × Bool)).all
      (fun (op, a, ci, r, c, z, n) =>
        (stepOn [op] { base with a := a, flags := flagsOf ci false false false }).map
          (fun t => (t.a, t.flags)) == some (r, flagsOf c z false n)) = true := by decide

/-! ### Witnesses: states and operands that meet the hypotheses of the statements -/

/-- A state with the byte $FF at the top address, SP at the bottom of the stack page and every flag set. -/
def full : State :=
  { a := 0x80, x := 0xFF, y := 0xFF, sp := 0x00, pc := 0xFFFF
    flags := { c := true, z := true, i := true, d := true, b := true, u := true, v := true, n := true }
    mem := [(0xFFFF, 0xFF)], running := true }

/-- `full` halted. -/
def stopped : State := { full with running := false }

/-- `full` with SEC at PC. -/
def atSec : State := { full with mem := [(0xFFFF, 0x38)] }

theorem witness_StepKeepsInvariant :
    atSec.Inv ∧ step atSec = .next { atSec with pc := 0x0000 } := ⟨⟨rfl, rfl⟩, rfl⟩

theorem witness_UnusedBitHoldsOne :
    exec .nop full = .next full ∧ step atSec = .next { atSec with pc := 0x0000 } := ⟨rfl, rfl⟩

theorem witness_StepFaultsExactlyOnUndefinedOpcode :
    step full = .fault (.decodeError 0xFF 0xFFFF) ∧ full.running = true ∧
      full.readByte full.pc ∈ undefinedOpcodes := ⟨rfl, rfl, by decide⟩

theorem witness_OnlyBrkHalts :
    exec .brk full = .next { full with running := false } ∧ full.running = true ∧
    step State.reset = .next { State.reset with
      pc := 0x0001, running := false, flags := { Flags.reset with b := true } } ∧
    State.reset.running = true ∧
    runUntilHalt 1 full = .faulted (.decodeError 0xFF 0xFFFF) full := ⟨rfl, rfl, rfl, rfl, rfl⟩

theorem witness_HaltedStateIsFinal : stopped.running = false := rfl

theorem witness_BreakFlagIsSetByBrkOnly :
    exec .brk State.reset = .next { State.reset with
      running := false, flags := { Flags.reset with b := true } } := rfl

theorem witness_FlagsAreWrittenOnlyByTheirInstructions :
    exec .nop full = .next full ∧
    Instr.nop.mnemonic ∉ [.adc, .sbc, .cmp, .cpx, .cpy, .asl, .lsr, .rol, .ror, .sec, .clc, .plp, .rti] ∧
    Instr.nop.mnemonic ∉ [.lda, .ldx, .ldy, .ora, .and, .eor, .inc, .dec, .inx, .iny, .dex, .dey,
      .asl, .lsr, .rol, .ror, .adc, .sbc, .cmp, .cpx, .cpy, .bit, .pla, .plp, .rti, .tax, .txa, .tay,
      .tya, .tsx] ∧
    Instr.nop.mnemonic ∉ [.sei, .cli, .plp, .rti] ∧ Instr.nop.mnemonic ∉ [.sed, .cld, .plp, .rti] ∧
    Instr.nop.mnemonic ∉ [.adc, .sbc, .bit, .clv, .plp, .rti] ∧ Instr.nop.mnemonic ∉ [.brk] := by
  refine ⟨rfl, ?_⟩
  decide

theorem witness_RegistersAreWrittenOnlyByTheirInstructions :
    exec .sec full = .next full ∧
    ¬ (Instr.sec.mnemonic ∈ [.lda, .ora, .and, .eor, .adc, .sbc, .pla, .txa, .tya] ∨
        Instr.sec.mode = .accumulator) ∧
    Instr.sec.mnemonic ∉ [.ldx, .inx, .dex, .tax, .tsx] ∧
    Instr.sec.mnemonic ∉ [.ldy, .iny, .dey, .tay] ∧
    Instr.sec.mnemonic ∉ [.jsr, .rts, .pha, .pla, .php, .plp, .rti, .txs] ∧
    Instr.sec.mnemonic ∉
      [.bcc, .bcs, .beq, .bmi, .bne, .bpl, .bvc, .bvs, .jmp, .jsr, .rts, .rti] ∧
    Instr.sec.mnemonic ∉ [.brk] := by
  refine ⟨rfl, ?_⟩
  decide

theorem witness_MemoryIsUnchangedOutsideStoredAddresses :
    exec (.staAbsoluteX 0xFFFF) full =
      .next { full with mem := [(0x00FE, 0x80), (0xFFFF, 0xFF)] } ∧
    (0x00FF : Word) ∉ storedAddresses (.staAbsoluteX 0xFFFF) full := ⟨rfl, by decide⟩

theorem witness_InterruptDisableAndDecimalControlNothing :
    fetchInstr atSec ≠ some .php ∧ step atSec = .next { atSec with pc := 0x0000 } ∧
    fetchInstr full ≠ some .php ∧ step full = .fault (.decodeError 0xFF 0xFFFF) := by
  refine ⟨by decide, rfl, by decide, rfl⟩

/-- The clauses by the start: halted, running with no bound, at a fault, at a next state. -/
theorem witness_RunUntilHaltStopsAtHaltOrDecodeError :
    stopped.running = false ∧ full.running = true ∧ step full = .fault (.decodeError 0xFF 0xFFFF) ∧
    atSec.running = true ∧ step atSec = .next { atSec with pc := 0x0000 } :=
  ⟨rfl, rfl, rfl, rfl, rfl⟩

/-- The clauses by the end: halted at once and after a step, faulted, bound used up. -/
theorem witness_RunUntilHaltStopsAtHaltOrDecodeError_ends :
    runUntilHalt 0 stopped = .halted stopped ∧
    runUntilHalt 1 State.reset = .halted { State.reset with
      pc := 0x0001, running := false, flags := { Flags.reset with b := true } } ∧
    runUntilHalt 1 full = .faulted (.decodeError 0xFF 0xFFFF) full ∧
    runUntilHalt 0 full = .outOfFuel full := ⟨rfl, rfl, rfl, rfl⟩

/-- A halted start, where the statement rests on log 2. -/
theorem witness_StepFaultsExactlyOnUndefinedOpcode_halted :
    step stopped = .next stopped ∧ stopped.running = false := ⟨rfl, rfl⟩

theorem witness_StepRunsDecodedInstruction :
    full.running = true ∧
    decode [atSec.readByte 0xFFFF, atSec.readByte 0x0000, atSec.readByte 0x0001] =
      .ok (.sec, [0x00, 0x00]) ∧
    decode [0xA9, 0x80, 0x00] = .ok (.ldaImmediate 0x80, [0x00]) ∧
    decode [0x4C, 0x34, 0x12] = .ok (.jmpAbsolute 0x1234, []) := ⟨rfl, rfl, rfl, rfl⟩

theorem witness_StepRunsTheInstructionStoredAtPC :
    full.mem.wf = true ∧ full.running = true := ⟨rfl, rfl⟩

theorem witness_UndefinedOpcodesAreRejected :
    (0x02 : Byte) ∈ undefinedOpcodes ∧ (0xFF : Byte) ∈ undefinedOpcodes ∧
    (0x00 : Byte) ∉ undefinedOpcodes ∧ (0xFE : Byte) ∉ undefinedOpcodes := by decide

theorem witness_OpcodeByteDeterminesFormAndLength :
    decode [0x4C, 0x34, 0x12] = .ok (.jmpAbsolute 0x1234, []) ∧
    decode [0x4C, 0xFF, 0xFF, 0x00] = .ok (.jmpAbsolute 0xFFFF, [0x00]) := ⟨rfl, rfl⟩

theorem witness_EncodeOfDecode :
    decode [0xE8] = .ok (.inx, []) ∧ decode [0xA9, 0x00, 0x01] = .ok (.ldaImmediate 0x00, [0x01]) ∧
    decode [0xBD, 0xFF, 0xFF] = .ok (.ldaAbsoluteX 0xFFFF, []) := ⟨rfl, rfl, rfl⟩

theorem witness_AssembledBranchReachesItsTarget :
    encodeRelative 0xFFFD 0x007E = some 0x7F ∧ encodeRelative 0xFFFD 0xFF7F = some 0x80 ∧
    full.pc = 0xFFFD + 2 := by decide

theorem witness_ReadGivesTheByteStored : full.mem.wf = true := rfl

theorem witness_MemoriesThatReadAlikeAreEqual :
    full.mem.wf = true ∧ (full.mem.write 0x0010 0x00).wf = true ∧
    ∀ a : Word, full.mem.read a.toNat = (full.mem.write 0x0010 0x00).read a.toNat :=
  ⟨rfl, rfl, fun _ => rfl⟩

theorem witness_OperandsWithoutAnAddress :
    Instr.nop.arg = .implied ∧ Instr.rorAccumulator.arg = .accumulator ∧
    (Instr.ldaImmediate 0xFF).arg = .immediate 0xFF := ⟨rfl, rfl, rfl⟩

theorem witness_ZeroPageModesWrapInPageZero :
    (Instr.ldaZeropage 0xFF).arg = .zeropage 0xFF ∧
    (Instr.ldaZeropageX 0xFF).arg = .zeropageX 0xFF ∧
    (Instr.stxZeropageY 0xFF).arg = .zeropageY 0xFF := ⟨rfl, rfl, rfl⟩

theorem witness_AbsoluteModesAddIn16Bits :
    (Instr.staAbsolute 0xFFFF).arg = .absolute 0xFFFF ∧
    (Instr.staAbsoluteX 0xFFFF).arg = .absoluteX 0xFFFF ∧
    (Instr.ldxAbsoluteY 0xFFFF).arg = .absoluteY 0xFFFF := ⟨rfl, rfl, rfl⟩

theorem witness_IndirectXPointerWrapsInPageZero :
    (Instr.ldaIndirectX 0xFF).arg = .indirectX 0xFF := rfl

theorem witness_IndirectYAddsYToThePointedWord :
    (Instr.staIndirectY 0xFF).arg = .indirectY 0xFF := rfl

/-- Both sides of the page boundary. -/
theorem witness_JumpIndirectHasThePageBoundaryBug :
    (Instr.jmpIndirect 0xFFFF).arg = .indirect 0xFFFF ∧
    (Instr.jmpIndirect 0x0200).arg = .indirect 0x0200 := ⟨rfl, rfl⟩

theorem witness_RelativeTargetIsSigned :
    (Instr.bne 0x80).arg = .relative 0x80 ∧ (Instr.bvs 0x7F).arg = .relative 0x7F := ⟨rfl, rfl⟩

theorem witness_LoadsAndStoresFollowTheirContract :
    (Instr.ldaIndirectY 0xFF).mnemonic = .lda ∧ (Instr.ldxZeropageY 0xFF).mnemonic = .ldx ∧
    (Instr.ldyImmediate 0x00).mnemonic = .ldy ∧ (Instr.staIndirectX 0xFF).mnemonic = .sta ∧
    (Instr.stxAbsolute 0xFFFF).mnemonic = .stx ∧ (Instr.styZeropageX 0xFF).mnemonic = .sty :=
  ⟨rfl, rfl, rfl, rfl, rfl, rfl⟩

theorem witness_OperandValueIsTheByteAtItsAddress :
    effectiveAddress (.absoluteX 0xFFFF) full = some 0x00FE := rfl

theorem witness_LogicWritesAAndZN :
    (Instr.oraImmediate 0xFF).mnemonic ∈ [.ora, .and, .eor] ∧
    (Instr.andAbsolute 0xFFFF).mnemonic ∈ [.ora, .and, .eor] ∧
    (Instr.eorIndirectY 0xFF).mnemonic ∈ [.ora, .and, .eor] := by decide

theorem witness_IncrementAndDecrementMemory :
    (Instr.incAbsolute 0xFFFF).mnemonic = .inc ∧ (Instr.decZeropageX 0x00).mnemonic = .dec :=
  ⟨rfl, rfl⟩

theorem witness_ShiftsMoveOneBitThroughCarry :
    Instr.aslAccumulator.mnemonic ∈ [.asl, .lsr, .rol, .ror] ∧ Instr.aslAccumulator.mnemonic = .asl ∧
    (Instr.lsrAbsolute 0xFFFF).mnemonic ∈ [.asl, .lsr, .rol, .ror] ∧
    (Instr.lsrAbsolute 0xFFFF).mnemonic = .lsr ∧
    (Instr.rolZeropageX 0xFF).mnemonic ∈ [.asl, .lsr, .rol, .ror] ∧
    (Instr.rolZeropageX 0xFF).mnemonic = .rol ∧
    Instr.rorAccumulator.mnemonic ∈ [.asl, .lsr, .rol, .ror] ∧
    Instr.rorAccumulator.mnemonic = .ror := by decide

theorem witness_AdcAddsWithCarry : (Instr.adcIndirectX 0xFF).mnemonic = .adc := rfl

theorem witness_SbcSubtractsWithBorrow : (Instr.sbcAbsoluteY 0xFFFF).mnemonic = .sbc := rfl

/-- $80 + $80 + 1 and $80 - $7F - 0: both overflow. -/
theorem witness_OverflowFlagIsSignedOverflow :
    operandValue (Instr.adcImmediate 0x80).arg full = some 0x80 ∧
    exec (.adcImmediate 0x80) full = .next { full with
      a := 0x01, flags := { full.flags with c := true, z := false, n := false, v := true } } ∧
    operandValue (Instr.sbcImmediate 0x7F).arg full = some 0x7F ∧
    exec (.sbcImmediate 0x7F) full = .next { full with
      a := 0x01, flags := { full.flags with c := true, z := false, n := false, v := true } } :=
  ⟨rfl, rfl, rfl, rfl⟩

theorem witness_ComparesSetCarryZeroNegative :
    (Instr.cmpIndirectX 0xFF).mnemonic ∈ [.cmp, .cpx, .cpy] ∧
    (Instr.cpxAbsolute 0xFFFF).mnemonic ∈ [.cmp, .cpx, .cpy] ∧
    (Instr.cpyImmediate 0x00).mnemonic ∈ [.cmp, .cpx, .cpy] := by decide

theorem witness_BitTestsTheMemoryByte : (Instr.bitAbsolute 0xFFFF).mnemonic = .bit := rfl

theorem witness_BranchesFollowTheirFlag :
    (Instr.bcc 0x7F).arg = .relative 0x7F ∧ (Instr.beq 0x80).arg = .relative 0x80 := ⟨rfl, rfl⟩

theorem witness_JumpSetsPC :
    (Instr.jmpAbsolute 0xFFFF).mnemonic = .jmp ∧ (Instr.jmpIndirect 0x02FF).mnemonic = .jmp :=
  ⟨rfl, rfl⟩

/-- JSR at the wrap of the stack: SP is $00. -/
theorem witness_RtsAfterJsrRestoresPCAndSP :
    full.mem.wf = true ∧ exec (.jsr 0x1234) full = .next { full with
      mem := [(0x0100, 0xFF), (0x01FF, 0xFE), (0xFFFF, 0xFF)], sp := 0xFE, pc := 0x1234 } :=
  ⟨rfl, rfl⟩

/-- PHP at the wrap of the stack. -/
theorem witness_PlpAfterPhpRestoresEveryFlag :
    full.mem.wf = true ∧
    exec .php full = .next { full with mem := [(0x0100, 0xFF), (0xFFFF, 0xFF)], sp := 0xFF } ∧
    ({ Flags.reset with b := true } : Flags).b = full.flags.b ∧
    ({ Flags.reset with b := true } : Flags).u = full.flags.u := ⟨rfl, rfl, rfl, rfl⟩

theorem witness_PopWordAfterPushWord : full.mem.wf = true := rfl

/-! ### Reset -/

theorem test_reset_memory_wf : State.reset.mem.wf = true := rfl

theorem test_reset_running : State.reset.running = true ∧ State.reset.sp = 0xFF := ⟨rfl, rfl⟩

end Sys2Proof.Tests
end

section
/-! PROOFS. V after ADC and SBC is the Glossary's two's-complement overflow (00_scope.md R11;
44_arith_compare.md R140, R141, R148): the result is the signed sum or difference brought back into
-128..127, and the sign tests of R140 and R141 find out whether that changed it. -/

namespace Sys2Proof.Machine

/-! ### The operation of ADC and SBC, whatever the mode -/

theorem ExecShape.of_adc {i : Instr} {s t : State} (h : ExecShape i s t) (hm : i.mnemonic = .adc) :
    ∃ m, operandValue i.arg s = some m ∧ t = addCarry m s := by
  cases h with
  | adc _ ho => exact ⟨_, ho, rfl⟩
  | _ => grind [Instr.mnemonic]

theorem ExecShape.of_sbc {i : Instr} {s t : State} (h : ExecShape i s t) (hm : i.mnemonic = .sbc) :
    ∃ m, operandValue i.arg s = some m ∧ t = subCarry m s := by
  cases h with
  | sbc _ ho => exact ⟨_, ho, rfl⟩
  | _ => grind [Instr.mnemonic]

theorem exec_adc_next {i : Instr} {s t : State} {m : Byte} (hm : i.mnemonic = .adc)
    (ho : operandValue i.arg s = some m) (he : exec i s = .next t) : t = addCarry m s := by
  obtain ⟨v, hv, rfl⟩ := (exec_next_shape he).of_adc hm
  rw [Option.some.inj (hv.symm.trans ho)]

theorem exec_sbc_next {i : Instr} {s t : State} {m : Byte} (hm : i.mnemonic = .sbc)
    (ho : operandValue i.arg s = some m) (he : exec i s = .next t) : t = subCarry m s := by
  obtain ⟨v, hv, rfl⟩ := (exec_next_shape he).of_sbc hm
  rw [Option.some.inj (hv.symm.trans ho)]

@[simp] theorem addCarry_v (m : Byte) (s : State) :
    (addCarry m s).flags.v = adcOverflow s.a m (adcResult s.a m s.flags.c) := rfl

@[simp] theorem subCarry_v (m : Byte) (s : State) :
    (subCarry m s).flags.v = sbcOverflow s.a m (sbcResult s.a m s.flags.c) := rfl

/-! ### The sign tests over the sign bits -/

theorem adcOverflow_eq (a m r : Byte) :
    adcOverflow a m r = decide (a.msb = m.msb ∧ a.msb ≠ r.msb) := by
  rw [adcOverflow, xor_sign_clear, xor_sign_set, Bool.decide_and]

theorem sbcOverflow_eq (a m r : Byte) :
    sbcOverflow a m r = decide (a.msb ≠ m.msb ∧ a.msb ≠ r.msb) := by
  rw [sbcOverflow, xor_sign_set, xor_sign_set, Bool.decide_and]

/-! ### Signed values -/

/-- ADC's result is the signed sum, brought back into -128..127. -/
theorem adcResult_toInt (a m : Byte) (c : Bool) :
    (adcResult a m c).toInt = (a.toInt + m.toInt + bitNat c).bmod 256 := by
  rw [adcResult, adcSum, BitVec.toInt_ofNat', BitVec.toInt_eq_toNat_bmod a,
    BitVec.toInt_eq_toNat_bmod m]
  push_cast
  exact Int.add_bmod_eq_add_bmod_right _ (Int.add_bmod a.toNat m.toNat 256)

/-- SBC's result is the signed difference, brought back into -128..127. -/
theorem sbcResult_toInt (a m : Byte) (c : Bool) :
    (sbcResult a m c).toInt = (a.toInt - m.toInt - (1 - bitNat c)).bmod 256 := by
  rw [sbcResult, sbcDiff, BitVec.toInt_ofInt, BitVec.toInt_eq_toNat_bmod a,
    BitVec.toInt_eq_toNat_bmod m]
  exact (Int.bmod_sub_cancel_right _).2 (Int.sub_bmod a.toNat m.toNat 256)

theorem signed_range (v : Byte) : -128 ≤ v.toInt ∧ v.toInt ≤ 127 :=
  ⟨v.le_toInt, Int.le_of_lt_add_one v.toInt_lt⟩

/-- R140's sign test is set iff the signed sum does not fit a byte. -/
theorem adcOverflow_iff (a m : Byte) (c : Bool) :
    adcOverflow a m (adcResult a m c) = true ↔
      ¬ (-128 ≤ a.toInt + m.toInt + bitNat c ∧ a.toInt + m.toInt + bitNat c ≤ 127) := by
  have ha := signed_range a
  have hm := signed_range m
  have hc := bitNat_le_one c
  simp only [adcOverflow_eq, BitVec.msb_eq_toInt, adcResult_toInt, Int.bmod_def, decide_eq_true_eq,
    decide_eq_decide, ne_eq]
  omega

/-- R141's sign test is set iff the signed difference does not fit a byte. -/
theorem sbcOverflow_iff (a m : Byte) (c : Bool) :
    sbcOverflow a m (sbcResult a m c) = true ↔
      ¬ (-128 ≤ a.toInt - m.toInt - (1 - bitNat c) ∧ a.toInt - m.toInt - (1 - bitNat c) ≤ 127) := by
  have ha := signed_range a
  have hm := signed_range m
  have hc := bitNat_le_one c
  simp only [sbcOverflow_eq, BitVec.msb_eq_toInt, sbcResult_toInt, Int.bmod_def, decide_eq_true_eq,
    decide_eq_decide, ne_eq]
  omega

/-- Settles O42: V is the sign test of the operation (`exec_adc_next`, `exec_sbc_next`), and that test
is signed overflow (`adcOverflow_iff`, `sbcOverflow_iff`). -/
theorem overflowFlagIsSignedOverflow : Obligations.OverflowFlagIsSignedOverflow := by
  intro i s t m ho he
  constructor
  · intro hm
    rw [exec_adc_next hm ho he, addCarry_v, adcOverflow_iff]
  · intro hm
    rw [exec_sbc_next hm ho he, subCarry_v, sbcOverflow_iff]

end Sys2Proof.Machine
end

section
/-! PROOFS. What every instruction and every step keeps of the state (10_state.md): the machine's
invariant, U, the "written by" columns of the flags and the registers, and the independence from I and D;
then the status byte and the word stack. -/

namespace Sys2Proof.Machine

/-! ### Fields after the shared operations -/

@[simp] theorem branch_flags (cond : Bool) (d : Byte) (s : State) :
    (branch cond d s).flags = s.flags := by rw [branch_eq]

@[simp] theorem shiftTo_flags (p : Place) (r : Byte) (c : Bool) (s : State) :
    (shiftTo p r c s).flags = { s.flags.setZN r with c := c } := by
  cases p <;> rfl

theorem shiftTo_wf {s : State} (h : s.mem.wf = true) (p : Place) (r : Byte) (c : Bool) :
    (shiftTo p r c s).mem.wf = true := by
  cases p with
  | acc => exact h
  | mem ea => exact State.writeByte_wf h ea r

/-- A shift writes A in the accumulator mode only, and no other register. -/
theorem shiftTo_registers {o : Arg} {s : State} {p : Place} (ho : shiftPlace o s = some p) (r : Byte)
    (c : Bool) :
    (o.mode ≠ .accumulator → (shiftTo p r c s).a = s.a) ∧ (shiftTo p r c s).x = s.x ∧
    (shiftTo p r c s).y = s.y ∧ (shiftTo p r c s).sp = s.sp ∧ (shiftTo p r c s).pc = s.pc ∧
    (shiftTo p r c s).running = s.running := by
  cases p with
  | acc => simp [shiftTo_acc, mode_of_shiftPlace_acc ho]
  | mem ea => simp [shiftTo_mem]

@[simp] theorem pushWord_flags (w : Word) (s : State) : (s.pushWord w).flags = s.flags := rfl

/-! ### Flags -/

/-- Settles O11, family by family: the flags an operation writes are among those that list its
mnemonic, and the next state's other flags are the old ones. -/
theorem flagsAreWrittenOnlyByTheirInstructions :
    Obligations.FlagsAreWrittenOnlyByTheirInstructions := by
  intro i s t h
  cases exec_next_shape h with
  | lda hm | ldx hm | ldy hm => simp [hm, loadA_eq, loadX_eq, loadY_eq]
  | sta | stx | sty => simp [storeA_eq, storeX_eq, storeY_eq]
  | ora hm | and hm | eor hm => simp [hm, orA_eq, andA_eq, eorA_eq]
  | inc hm | dec hm => simp [hm, incMem_eq, decMem_eq]
  | asl hm | lsr hm | rol hm | ror hm =>
    simp [hm, shiftLeft, shiftRight, rotateLeft, rotateRight]
  | adc hm | sbc hm => simp [hm, addCarry, subCarry, accumulate_eq]
  | cmp hm | cpx hm | cpy hm =>
    simp [hm, compareA_eq, compareX_eq, compareY_eq, Flags.compare]
  | bit hm => simp [hm, bitTest_eq, Flags.bitTest]
  | bcc | bcs | beq | bmi | bne | bpl | bvc | bvs => simp
  | jmp | jsr => simp [jump_eq, callSubroutine_eq]
  | inx hi | iny hi | dex hi | dey hi | tax hi | txa hi | tay hi | tya hi | tsx hi | txs hi =>
    simp [hi, Instr.mnemonic]
  | pha hi | pla hi | php hi | plp hi | rts hi | rti hi =>
    simp [hi, Instr.mnemonic, poppedWord_eq, pullFlags_eq, returnFromInterrupt_eq]
  | brk hi | nop hi | sec hi | clc hi | sed hi | cld hi | sei hi | cli hi | clv hi =>
    simp [hi, Instr.mnemonic]

/-- R33: no instruction writes U. -/
theorem exec_u_eq {i : Instr} {s t : State} (h : exec i s = .next t) : t.flags.u = s.flags.u := by
  obtain ⟨-, -, -, -, -, -, hu⟩ := flagsAreWrittenOnlyByTheirInstructions i s t h
  exact hu

theorem eq_brk_of_mnemonic {i : Instr} (h : i.mnemonic = .brk) : i = .brk := by
  cases i with
  | brk => rfl
  | _ => cases h

/-- Settles O10: BRK sets B, and by O11 every other instruction leaves it. -/
theorem breakFlagIsSetByBrkOnly : Obligations.BreakFlagIsSetByBrkOnly := by
  intro i s t h
  by_cases hi : i = .brk
  · subst hi
    cases h
    simp
  · obtain ⟨-, -, -, -, -, hb, -⟩ := flagsAreWrittenOnlyByTheirInstructions i s t h
    have hm : i.mnemonic ≠ .brk := fun hm => hi (eq_brk_of_mnemonic hm)
    simp [hb (by simpa using hm), hi]

/-! ### Registers -/

/-- Settles O12, family by family as O11; A is written by a shift in the accumulator mode only. -/
theorem registersAreWrittenOnlyByTheirInstructions :
    Obligations.RegistersAreWrittenOnlyByTheirInstructions := by
  intro i s t h
  cases exec_next_shape h with
  | lda hm | ldx hm | ldy hm => simp [hm, loadA_eq, loadX_eq, loadY_eq]
  | sta | stx | sty => simp [storeA_eq, storeX_eq, storeY_eq]
  | ora hm | and hm | eor hm => simp [hm, orA_eq, andA_eq, eorA_eq]
  | inc | dec => simp [incMem_eq, decMem_eq]
  | asl hm ho | lsr hm ho | rol hm ho | ror hm ho => 
    obtain ⟨ha, hx, hy, hsp, hpc, hr⟩ := shiftTo_registers ho _ _
    exact ⟨fun h => ha (h ∘ .inr), fun _ => hx, fun _ => hy, fun _ => hsp, fun _ => hpc, fun _ => hr⟩
  | adc hm | sbc hm => simp [hm, addCarry, subCarry, accumulate_eq]
  | cmp | cpx | cpy => simp [compareA_eq, compareX_eq, compareY_eq]
  | bit => simp [bitTest_eq]
  | bcc d hi | bcs d hi | beq d hi | bmi d hi | bne d hi | bpl d hi | bvc d hi | bvs d hi =>
    simp [hi, Instr.mnemonic, branch_eq]
  | jmp hm | jsr hm => simp [hm, jump_eq, callSubroutine_eq, pushWord_eq]
  | inx hi | iny hi | dex hi | dey hi | tax hi | txa hi | tay hi | tya hi | tsx hi | txs hi =>
    simp [hi, Instr.mnemonic]
  | pha hi | pla hi | php hi | plp hi | rts hi | rti hi =>
    simp [hi, Instr.mnemonic, poppedWord_eq, pullFlags_eq, returnFromInterrupt_eq]
  | brk hi | nop hi | sec hi | clc hi | sed hi | cld hi | sei hi | cli hi | clv hi =>
    simp [hi, Instr.mnemonic]

/-! ### The invariant -/

/-- Memory is changed by stores, read-modify-writes and pushes only, and each of them is made of byte
writes, which keep the canonical form. -/
theorem exec_keeps_wf {i : Instr} {s t : State} (hs : s.mem.wf = true) (h : exec i s = .next t) :
    t.mem.wf = true := by
  cases exec_next_shape h with
  | sta | stx | sty | inc | dec => exact State.writeByte_wf hs _ _
  | asl | lsr | rol | ror => exact shiftTo_wf hs _ _ _
  | pha | php => exact State.push_wf hs _
  | jsr => exact State.pushWord_wf hs _
  | bcc | bcs | beq | bmi | bne | bpl | bvc | bvs => rwa [branch_eq]
  | _ => exact hs

theorem exec_keeps_inv {i : Instr} {s t : State} (hs : s.Inv) (h : exec i s = .next t) : t.Inv := by
  obtain ⟨hwf, hu⟩ := hs
  exact ⟨exec_keeps_wf hwf h, (exec_u_eq h).trans hu⟩

/-- Settles O4: a halted state stays as it is, and the instruction at PC keeps the invariant. -/
theorem stepKeepsInvariant : Obligations.StepKeepsInvariant := by
  intro s t hs h
  rcases step_next_cases h with ⟨-, rfl⟩ | ⟨-, i, -, he⟩
  · exact hs
  · exact exec_keeps_inv (s := advancePC i s) hs he

/-- Settles O3: the reset memory is the empty list. -/
theorem invariantHoldsAtReset : Obligations.InvariantHoldsAtReset :=
  ⟨rfl, rfl⟩

/-! ### I and D control nothing -/

/-- The state with other values of I and D. -/
def State.withID (s : State) (vi vd : Bool) : State :=
  { s with flags := { s.flags with i := vi, d := vd } }

theorem branch_withID (cond : Bool) (d : Byte) (s : State) (vi vd : Bool) :
    branch cond d (s.withID vi vd) = (branch cond d s).withID vi vd := by
  cases cond <;> rfl

/-- Every instruction completes (R221). -/
theorem exec_completes (i : Instr) (s : State) : ∃ t, exec i s = .next t := by
  cases i <;> exact ⟨_, rfl⟩

/-- An instruction other than PHP has the same outcome up to I and D: SEI, CLI, SED and CLD set one of
them to a constant and leave the other, PLP and RTI pull both, and the rest leave both. -/
theorem exec_withID {i : Instr} {s t : State} (hi : i ≠ .php) (h : exec i s = .next t)
    (vi vd : Bool) : ∃ wi wd, exec i (s.withID vi vd) = .next (t.withID wi wd) := by
  cases i with
  | php => exact absurd rfl hi
  | sei => cases h; exact ⟨true, vd, rfl⟩
  | cli => cases h; exact ⟨false, vd, rfl⟩
  | sed => cases h; exact ⟨vi, true, rfl⟩
  | cld => cases h; exact ⟨vi, false, rfl⟩
  | plp | rti => cases h; exact ⟨s.pullFlags.flags.i, s.pullFlags.flags.d, rfl⟩
  | bcc | bcs | beq | bmi | bne | bpl | bvc | bvs =>
    cases h; exact ⟨vi, vd, congrArg _ (branch_withID _ _ s vi vd)⟩
  | _ => cases h; exact ⟨vi, vd, rfl⟩

theorem step_fault_cases {s : State} {r : Fault} (h : step s = .fault r) :
    s.running = true ∧ fetchInstr s = none := by
  cases hr : s.running with
  | false => simp [step_halted hr, stepHalted] at h
  | true =>
    cases hf : fetchInstr s with
    | none => exact ⟨rfl, rfl⟩
    | some i =>
      obtain ⟨t, ht⟩ := exec_completes i (advancePC i s)
      simp [step_of_fetch hr hf, ht] at h

/-- Settles O14: the fetch does not read the flags, so the same instruction runs and `exec_withID`
applies, or the same decode error is raised. -/
theorem interruptDisableAndDecimalControlNothing :
    Obligations.InterruptDisableAndDecimalControlNothing := by
  intro s vi vd hphp
  have hfetch : fetchInstr (s.withID vi vd) = fetchInstr s := rfl
  constructor
  · intro t h
    rcases step_next_cases h with ⟨hr, rfl⟩ | ⟨hr, i, hf, he⟩
    · exact ⟨vi, vd, step_halted (s := t.withID vi vd) hr⟩
    · have hi : i ≠ .php := fun hi => hphp (hi ▸ hf)
      obtain ⟨wi, wd, hw⟩ := exec_withID hi he vi vd
      exact ⟨wi, wd, (step_of_fetch (s := s.withID vi vd) hr (hfetch.trans hf)).trans hw⟩
  · intro r h
    obtain ⟨hr, hf⟩ := step_fault_cases h
    have hs : step s = decodeErrorAt s := step_of_no_fetch hr hf
    have hw : step (s.withID vi vd) = decodeErrorAt (s.withID vi vd) :=
      step_of_no_fetch hr (hfetch.trans hf)
    exact hw.trans (hs.symm.trans h)

/-! ### The status byte -/

/-- Settles O51: the byte depends on the six semantic flags, 64 cases. -/
theorem statusByteLayout : Obligations.StatusByteLayout := by
  rintro ⟨c, z, i, d, b, u, v, n⟩
  revert c z i d v n
  simp only [pack]
  decide

/-- Bit 5 is the 32 of the layout. -/
theorem pack_bit_five (f : Flags) : (pack f).getLsbD 5 = true := by
  have hc := bitNat_le_one f.c
  have hz := bitNat_le_one f.z
  have hi := bitNat_le_one f.i
  have hd := bitNat_le_one f.d
  rw [getLsbD_eq_div, statusByteLayout f]
  simp only [decide_eq_true_eq]
  omega

/-- Settles O5: no instruction writes U (`exec_u_eq`), and a step runs one or none. -/
theorem unusedBitHoldsOne : Obligations.UnusedBitHoldsOne := by
  refine ⟨fun i s t h => exec_u_eq h, fun s t h => ?_, fun _ => rfl, fun _ => rfl, pack_bit_five⟩
  rcases step_next_cases h with ⟨-, rfl⟩ | ⟨-, i, -, he⟩
  · rfl
  · exact exec_u_eq (s := advancePC i s) he

/-! ### The word stack -/

theorem popWord_pushWord {s : State} (h : s.mem.wf = true) (w : Word) :
    (s.pushWord w).popWord = w := by
  have hsp : s.sp - 1 - 1 + 1 = s.sp - 1 := BitVec.sub_add_cancel _ _
  have hne : stackAddr s.sp ≠ stackAddr (s.sp - 1) := by
    intro heq
    have := stackAddr_inj heq
    bv_omega
  have hhi : (s.writeByte (stackAddr s.sp) (hi w)).mem.wf = true := State.writeByte_wf h _ _
  rw [popWord_eq, pushWord_eq]
  simp only [State.setSP_sp, State.readByte_setSP, hsp, BitVec.sub_add_cancel]
  rw [State.readByte_writeByte_self hhi, State.readByte_writeByte_ne _ hne,
    State.readByte_writeByte_self h, word_lo_hi]

theorem poppedWord_pushWord (s : State) (w : Word) :
    (s.pushWord w).poppedWord = { s.pushWord w with sp := s.sp } := by
  have hsp : (s.pushWord w).sp + 1 + 1 = s.sp := by
    simp [pushWord_eq]
  rw [poppedWord_eq, hsp]

/-- Settles O56: the low byte's slot is the one above the new SP, the high byte's the next. -/
theorem popWordAfterPushWord : Obligations.PopWordAfterPushWord :=
  fun s w h => ⟨popWord_pushWord h w, poppedWord_pushWord s w⟩

end Sys2Proof.Machine
end

section
/-! PROOFS. Memory (20_memory.md): what a write and a word read give, the canonical form determines the
list, what each instruction leaves unchanged, and a fetch of bytes that were stored before it. -/

namespace Sys2Proof.Laws.FormTable

/-- The form table holds of every instruction, by the lemma of its constructor. -/
theorem statement_holds : ∀ i : Instr, Statement i
  | .ldaImmediate v => ldaImmediate v | .ldaZeropage z => ldaZeropage z
  | .ldaZeropageX z => ldaZeropageX z | .ldaAbsolute w => ldaAbsolute w
  | .ldaAbsoluteX w => ldaAbsoluteX w | .ldaAbsoluteY w => ldaAbsoluteY w
  | .ldaIndirectX z => ldaIndirectX z | .ldaIndirectY z => ldaIndirectY z
  | .ldxImmediate v => ldxImmediate v | .ldxZeropage z => ldxZeropage z
  | .ldxZeropageY z => ldxZeropageY z | .ldxAbsolute w => ldxAbsolute w
  | .ldxAbsoluteY w => ldxAbsoluteY w | .ldyImmediate v => ldyImmediate v
  | .ldyZeropage z => ldyZeropage z | .ldyZeropageX z => ldyZeropageX z
  | .ldyAbsolute w => ldyAbsolute w | .ldyAbsoluteX w => ldyAbsoluteX w
  | .staZeropage z => staZeropage z | .staZeropageX z => staZeropageX z
  | .staAbsolute w => staAbsolute w | .staAbsoluteX w => staAbsoluteX w
  | .staAbsoluteY w => staAbsoluteY w | .staIndirectX z => staIndirectX z
  | .staIndirectY z => staIndirectY z | .stxZeropage z => stxZeropage z
  | .stxZeropageY z => stxZeropageY z | .stxAbsolute w => stxAbsolute w
  | .styZeropage z => styZeropage z | .styZeropageX z => styZeropageX z
  | .styAbsolute w => styAbsolute w | .oraImmediate v => oraImmediate v
  | .oraZeropage z => oraZeropage z | .oraZeropageX z => oraZeropageX z
  | .oraAbsolute w => oraAbsolute w | .oraAbsoluteX w => oraAbsoluteX w
  | .oraAbsoluteY w => oraAbsoluteY w | .oraIndirectX z => oraIndirectX z
  | .oraIndirectY z => oraIndirectY z | .andImmediate v => andImmediate v
  | .andZeropage z => andZeropage z | .andZeropageX z => andZeropageX z
  | .andAbsolute w => andAbsolute w | .andAbsoluteX w => andAbsoluteX w
  | .andAbsoluteY w => andAbsoluteY w | .andIndirectX z => andIndirectX z
  | .andIndirectY z => andIndirectY z | .eorImmediate v => eorImmediate v
  | .eorZeropage z => eorZeropage z | .eorZeropageX z => eorZeropageX z
  | .eorAbsolute w => eorAbsolute w | .eorAbsoluteX w => eorAbsoluteX w
  | .eorAbsoluteY w => eorAbsoluteY w | .eorIndirectX z => eorIndirectX z
  | .eorIndirectY z => eorIndirectY z | .incZeropage z => incZeropage z
  | .incZeropageX z => incZeropageX z | .incAbsolute w => incAbsolute w
  | .incAbsoluteX w => incAbsoluteX w | .decZeropage z => decZeropage z
  | .decZeropageX z => decZeropageX z | .decAbsolute w => decAbsolute w
  | .decAbsoluteX w => decAbsoluteX w | .inx => inx | .iny => iny | .dex => dex | .dey => dey
  | .aslAccumulator => aslAccumulator | .aslZeropage z => aslZeropage z
  | .aslZeropageX z => aslZeropageX z | .aslAbsolute w => aslAbsolute w
  | .aslAbsoluteX w => aslAbsoluteX w | .lsrAccumulator => lsrAccumulator
  | .lsrZeropage z => lsrZeropage z | .lsrZeropageX z => lsrZeropageX z
  | .lsrAbsolute w => lsrAbsolute w | .lsrAbsoluteX w => lsrAbsoluteX w
  | .rolAccumulator => rolAccumulator | .rolZeropage z => rolZeropage z
  | .rolZeropageX z => rolZeropageX z | .rolAbsolute w => rolAbsolute w
  | .rolAbsoluteX w => rolAbsoluteX w | .rorAccumulator => rorAccumulator
  | .rorZeropage z => rorZeropage z | .rorZeropageX z => rorZeropageX z
  | .rorAbsolute w => rorAbsolute w | .rorAbsoluteX w => rorAbsoluteX w
  | .adcImmediate v => adcImmediate v | .adcZeropage z => adcZeropage z
  | .adcZeropageX z => adcZeropageX z | .adcAbsolute w => adcAbsolute w
  | .adcAbsoluteX w => adcAbsoluteX w | .adcAbsoluteY w => adcAbsoluteY w
  | .adcIndirectX z => adcIndirectX z | .adcIndirectY z => adcIndirectY z
  | .sbcImmediate v => sbcImmediate v | .sbcZeropage z => sbcZeropage z
  | .sbcZeropageX z => sbcZeropageX z | .sbcAbsolute w => sbcAbsolute w
  | .sbcAbsoluteX w => sbcAbsoluteX w | .sbcAbsoluteY w => sbcAbsoluteY w
  | .sbcIndirectX z => sbcIndirectX z | .sbcIndirectY z => sbcIndirectY z
  | .cmpImmediate v => cmpImmediate v | .cmpZeropage z => cmpZeropage z
  | .cmpZeropageX z => cmpZeropageX z | .cmpAbsolute w => cmpAbsolute w
  | .cmpAbsoluteX w => cmpAbsoluteX w | .cmpAbsoluteY w => cmpAbsoluteY w
  | .cmpIndirectX z => cmpIndirectX z | .cmpIndirectY z => cmpIndirectY z
  | .cpxImmediate v => cpxImmediate v | .cpxZeropage z => cpxZeropage z
  | .cpxAbsolute w => cpxAbsolute w | .cpyImmediate v => cpyImmediate v
  | .cpyZeropage z => cpyZeropage z | .cpyAbsolute w => cpyAbsolute w
  | .bitZeropage z => bitZeropage z | .bitAbsolute w => bitAbsolute w | .bcc d => bcc d
  | .bcs d => bcs d | .beq d => beq d | .bmi d => bmi d | .bne d => bne d | .bpl d => bpl d
  | .bvc d => bvc d | .bvs d => bvs d | .jmpAbsolute w => jmpAbsolute w
  | .jmpIndirect w => jmpIndirect w | .jsr w => jsr w | .rts => rts | .pha => pha | .pla => pla
  | .php => php | .plp => plp | .rti => rti | .brk => brk | .nop => nop | .tax => tax
  | .txa => txa | .tay => tay | .tya => tya | .tsx => tsx | .txs => txs | .sec => sec
  | .clc => clc | .sed => sed | .cld => cld | .sei => sei | .cli => cli | .clv => clv

end Sys2Proof.Laws.FormTable

namespace Sys2Proof.Machine

/-! ### Reads, writes and words -/

/-- Settles O24 by the two reads after a write, at the address written and at another one. -/
theorem readGivesTheByteStored : Obligations.ReadGivesTheByteStored := by
  intro s a v h
  refine ⟨fun b => ?_, rfl⟩
  split
  · next hb => rw [hb, State.readByte_writeByte_self h]
  · next hb => exact State.readByte_writeByte_ne s hb v

theorem next_address_eq (a : Word) : a + 1 = BitVec.ofNat 16 ((a.toNat + 1) % 65536) := by
  apply BitVec.eq_of_toNat_eq
  simp [BitVec.toNat_add]

/-- Settles O26: `word` is the little-endian number of its bytes, and 16-bit addition wraps. -/
theorem wordReadIsLittleEndianAndWraps : Obligations.WordReadIsLittleEndianAndWraps := by
  intro s a
  rw [State.readWord, word_toNat, ← next_address_eq, wordNat]

/-! ### The canonical form determines the list -/

theorem read_cons_self (j : Nat) (u : Byte) (m : Memory) : Memory.read ((j, u) :: m) j = u :=
  if_pos rfl

theorem read_cons_ne {j k : Nat} (hne : j ≠ k) (u : Byte) (m : Memory) :
    Memory.read ((j, u) :: m) k = m.read k :=
  if_neg hne

/-- The first cell of a canonical list holds a byte that a list starting above it cannot show. -/
theorem not_wfFrom_succ_of_read_eq {low j : Nat} {u : Byte} {m m' : Memory}
    (h : wfFrom low ((j, u) :: m) = true) (hr : m'.read j = u) : wfFrom (j + 1) m' ≠ true := by
  intro h'
  obtain ⟨-, -, hu, -⟩ := wfFrom_cons.1 h
  exact hu (hr.symm.trans (read_of_lt h' (Nat.lt_succ_self j)))

/-- Canonical lists that read alike start at the same address: neither first cell lies below the
other, since the other list would read as unlisted there. -/
theorem head_le_of_read_eq {low j j' : Nat} {u u' : Byte} {m m' : Memory}
    (h : wfFrom low ((j, u) :: m) = true) (h' : wfFrom low ((j', u') :: m') = true)
    (hr : Memory.read ((j', u') :: m') j = u) : j' ≤ j := by
  by_contra hlt
  obtain ⟨-, htail'⟩ := wfFrom_cons.1 h'
  exact not_wfFrom_succ_of_read_eq h hr (wfFrom_cons.2 ⟨by omega, htail'⟩)

theorem eq_of_read_eq {low : Nat} {m m' : Memory} (h : wfFrom low m = true)
    (h' : wfFrom low m' = true) (hr : ∀ k < Config.memorySize, m.read k = m'.read k) : m = m' := by
  induction m generalizing low m' with
  | nil =>
    cases m' with
    | nil => rfl
    | cons c' m' =>
      obtain ⟨j', u'⟩ := c'
      obtain ⟨-, hj', -⟩ := wfFrom_cons.1 h'
      have hread : Memory.read [] j' = u' := (hr j' hj').trans (read_cons_self j' u' m')
      exact absurd rfl (not_wfFrom_succ_of_read_eq h' hread)
  | cons c m ih =>
    obtain ⟨j, u⟩ := c
    obtain ⟨-, hj, -, htail⟩ := wfFrom_cons.1 h
    have hread : m'.read j = u := (hr j hj).symm.trans (read_cons_self j u m)
    cases m' with
    | nil => exact absurd rfl (not_wfFrom_succ_of_read_eq h hread)
    | cons c' m' =>
      obtain ⟨j', u'⟩ := c'
      obtain ⟨-, hj', -, htail'⟩ := wfFrom_cons.1 h'
      have hread' : Memory.read ((j, u) :: m) j' = u' := (hr j' hj').trans (read_cons_self j' u' m')
      obtain rfl : j = j' :=
        Nat.le_antisymm (head_le_of_read_eq h' h hread') (head_le_of_read_eq h h' hread)
      obtain rfl : u = u' := (read_cons_self j u m).symm.trans hread'
      have htails : ∀ k < Config.memorySize, Memory.read m k = Memory.read m' k := by
        intro k hk
        by_cases hle : k ≤ j
        · rw [read_of_lt htail (by omega), read_of_lt htail' (by omega)]
        · have hne : j ≠ k := by omega
          rw [← read_cons_ne hne u m, hr k hk, read_cons_ne hne]
      rw [ih htail htail' htails]

/-- Settles O25: every address of the list is the number of a word. -/
theorem memoriesThatReadAlikeAreEqual : Obligations.MemoriesThatReadAlikeAreEqual := by
  intro m m' h h' hr
  refine eq_of_read_eq h h' fun k hk => ?_
  have hword : (BitVec.ofNat 16 k).toNat = k := Nat.mod_eq_of_lt hk
  simpa only [hword] using hr (BitVec.ofNat 16 k)

/-! ### The memory frame of an instruction -/

theorem effectiveAddress_of_shiftPlace {o : Arg} {s : State} {ea : Word}
    (h : shiftPlace o s = some (.mem ea)) : effectiveAddress o s = some ea := by
  cases o <;> simp_all [shiftPlace]

/-- A shift changes no byte but the one it works on. -/
theorem readByte_shiftTo_ne {p : Place} {b : Word} (hne : p ≠ .mem b) (r : Byte) (c : Bool)
    (s : State) : (shiftTo p r c s).readByte b = s.readByte b := by
  cases p with
  | acc => rfl
  | mem ea => exact State.readByte_writeByte_ne s (fun h => hne (congrArg Place.mem h.symm)) r

theorem readByte_push_ne {s : State} {b : Word} (hne : b ≠ stackAddr s.sp) (v : Byte) :
    (s.push v).readByte b = s.readByte b :=
  State.readByte_writeByte_ne s hne v

theorem readByte_pushWord_ne {s : State} {b : Word} (hhi : b ≠ stackAddr s.sp)
    (hlo : b ≠ stackAddr (s.sp - 1)) (w : Word) : (s.pushWord w).readByte b = s.readByte b :=
  (readByte_push_ne (s := s.push (hi w)) hlo (lo w)).trans (readByte_push_ne hhi (hi w))

/-- Settles O13, family by family: stores and INC and DEC write their effective address, shifts the
place they work on, pushes the slots SP names, and the other instructions leave memory as it is. -/
theorem memoryIsUnchangedOutsideStoredAddresses :
    Obligations.MemoryIsUnchangedOutsideStoredAddresses := by
  intro i s t h b hb
  cases exec_next_shape h with
  | @sta hm ea ho | @stx hm ea ho | @sty hm ea ho | @inc hm ea ho | @dec hm ea ho =>
    have hne : b ≠ ea := by simpa [storedAddresses, hm, ho] using hb
    exact State.readByte_writeByte_ne s hne _
  | asl hm ho | lsr hm ho | rol hm ho | ror hm ho =>
    refine readByte_shiftTo_ne ?_ _ _ s
    rintro rfl
    simp [storedAddresses, hm, effectiveAddress_of_shiftPlace ho] at hb
  | pha hi | php hi =>
    have hne : b ≠ stackAddr s.sp := by simpa [storedAddresses, hi, Instr.mnemonic] using hb
    exact readByte_push_ne hne _
  | jsr hm =>
    obtain ⟨hhi, hlo⟩ : b ≠ stackAddr s.sp ∧ b ≠ stackAddr (s.sp - 1) := by
      simpa [storedAddresses, hm] using hb
    exact readByte_pushWord_ne hhi hlo _
  | bcc | bcs | beq | bmi | bne | bpl | bvc | bvs => rw [branch_eq]; rfl
  | _ => rfl

/-! ### Bytes stored at consecutive addresses -/

/-- The `n` bytes at consecutive addresses from `a`, modulo 65536. -/
def readBytes (a : Word) : Nat → State → List Byte
  | 0, _ => []
  | n + 1, s => s.readByte a :: readBytes (a + 1) n s

theorem fetchBytes_eq_readBytes (s : State) : fetchBytes s = readBytes s.pc 3 s := by
  have htwo : s.pc + 1 + 1 = s.pc + 2 := BitVec.add_assoc s.pc 1 1
  simp only [fetchBytes, readBytes, htwo]

theorem readBytes_prefix {m n : Nat} (hle : m ≤ n) (a : Word) (s : State) :
    readBytes a m s <+: readBytes a n s := by
  induction m generalizing n a with
  | zero => exact List.nil_prefix
  | succ m ih =>
    obtain ⟨n, rfl⟩ : ∃ n', n = n' + 1 := ⟨n - 1, by omega⟩
    exact List.cons_prefix_cons.2 ⟨rfl, ih (by omega) (a + 1)⟩

@[simp] theorem storeBytes_pc (a : Word) (bs : List Byte) (s : State) :
    (storeBytes a bs s).pc = s.pc := by
  induction bs generalizing a s with
  | nil => rfl
  | cons b bs ih => exact ih (a + 1) (s.writeByte a b)

@[simp] theorem storeBytes_running (a : Word) (bs : List Byte) (s : State) :
    (storeBytes a bs s).running = s.running := by
  induction bs generalizing a s with
  | nil => rfl
  | cons b bs ih => exact ih (a + 1) (s.writeByte a b)

/-- An address at least as far past `a`, modulo 65536, as there are bytes is not stored to. -/
theorem readByte_storeBytes_of_length_le {a c : Word} {bs : List Byte}
    (h : bs.length ≤ (c - a).toNat) (s : State) : (storeBytes a bs s).readByte c = s.readByte c := by
  induction bs generalizing a s with
  | nil => rfl
  | cons b bs ih =>
    rw [List.length_cons] at h
    have hne : c ≠ a := by bv_omega
    have hrest : bs.length ≤ (c - (a + 1)).toNat := by bv_omega
    exact (ih hrest (s.writeByte a b)).trans (State.readByte_writeByte_ne s hne b)

/-- As long as the bytes do not run over the whole memory, all of them read back. -/
theorem readBytes_storeBytes {bs : List Byte} (hlen : bs.length ≤ Config.memorySize) (a : Word)
    {s : State} (h : s.mem.wf = true) : readBytes a bs.length (storeBytes a bs s) = bs := by
  induction bs generalizing a s with
  | nil => rfl
  | cons b bs ih =>
    rw [List.length_cons, Config.memorySize] at hlen
    have hfar : bs.length ≤ (a - (a + 1)).toNat := by bv_omega
    have hfirst : (storeBytes a (b :: bs) s).readByte a = b :=
      (readByte_storeBytes_of_length_le hfar _).trans (State.readByte_writeByte_self h a b)
    exact congrArg₂ List.cons hfirst
      (ih (by rw [Config.memorySize]; omega) (a + 1) (State.writeByte_wf h a b))

/-! ### A fetch of a stored instruction -/

/-- The row that the lookup finds builds the instruction from its own operand bytes, so whatever
follows them is left over. -/
theorem decode_encode_append (i : Instr) (rest : List Byte) :
    decode (encode i ++ rest) = .ok (i, rest) := by
  obtain ⟨-, -, build, hlookup, hbuild⟩ := Laws.FormTable.statement_holds i
  rw [encode, List.cons_append, decode_of_defined hlookup]
  cases build with
  | done j =>
    obtain ⟨rfl, hbytes⟩ := hbuild
    rw [hbytes]; rfl
  | byte f =>
    obtain ⟨b, rfl, hbytes⟩ := hbuild
    rw [hbytes]; rfl
  | word f =>
    obtain ⟨w, rfl, hbytes⟩ := hbuild
    rw [hbytes]
    simp [finish]

theorem encode_length_le (i : Instr) : (encode i).length ≤ 3 := by
  rw [encode]
  cases i.arg <;> simp [Arg.bytes]

theorem fetchInstr_storeBytes_encode {s : State} (h : s.mem.wf = true) (i : Instr) :
    fetchInstr (storeBytes s.pc (encode i) s) = some i := by
  have hlen := encode_length_le i
  have hmem : (encode i).length ≤ Config.memorySize := hlen.trans (by decide)
  obtain ⟨rest, hrest⟩ := readBytes_prefix hlen s.pc (storeBytes s.pc (encode i) s)
  rw [readBytes_storeBytes hmem s.pc h] at hrest
  apply fetchInstr_of_decode (rest := rest)
  rw [fetchBytes_eq_readBytes, storeBytes_pc, ← hrest, decode_encode_append]

/-- Settles O17: the stored bytes read back, so the fetch decodes them. -/
theorem stepRunsTheInstructionStoredAtPC : Obligations.StepRunsTheInstructionStoredAtPC := by
  intro i s h hr
  have hrun : (storeBytes s.pc (encode i) s).running = true := (storeBytes_running _ _ s).trans hr
  rw [step_of_fetch hrun (fetchInstr_storeBytes_encode h i), advancePC, storeBytes_pc]
  rfl

end Sys2Proof.Machine
end

section
/-! PROOFS. Encoding (30_encoding.md): decoding and encoding undo each other, the opcode byte determines
the form, the addressing modes over numbers, the branch displacement, and what a step fetches and runs. -/

namespace Sys2Proof

open Machine (lo hi word undefinedOpcodes wordNat encode_length_le decode_encode_append word_toNat)

/-! ### Decoding gives back what was encoded -/

/-- Settles O20 by the row that the lookup finds (`decode_encode_append`). -/
theorem decodeOfEncode : Obligations.DecodeOfEncode := decode_encode_append

/-- What `decode` accepts: a defined opcode byte with the operand bytes of its row after it. -/
theorem decode_ok_cases {bs : List Byte} {i : Instr} {rest : List Byte}
    (h : decode bs = .ok (i, rest)) :
    ∃ op b tail, bs = op :: tail ∧ lookupOpcode op = some b ∧ finish op b tail = .ok (i, rest) := by
  cases bs with
  | nil => cases h
  | cons op tail =>
    cases hl : lookupOpcode op with
    | none => rw [decode_of_undefined hl] at h; cases h
    | some b => exact ⟨op, b, tail, rfl, hl, (decode_of_defined hl tail).symm.trans h⟩

/-- The bytes `finish` takes are the operand bytes that the encoder writes for the row. -/
theorem finish_ok_encode {op : Byte} {b : Build} {tail : List Byte} {i : Instr} {rest : List Byte}
    (hrow : OpcodeRow.Encodes ⟨op, b⟩) (h : finish op b tail = .ok (i, rest)) :
    op :: tail = encode i ++ rest := by
  cases b with
  | done j =>
    cases h
    rw [show encode i = [op] from hrow]; rfl
  | byte f =>
    match tail with
    | [] => cases h
    | l :: tail =>
      cases h
      rw [show encode (f l) = [op, l] from hrow l]; rfl
  | word f =>
    match tail with
    | [] | [_] => cases h
    | l :: u :: tail =>
      cases h
      rw [show encode (f (word l u)) = [op, lo (word l u), hi (word l u)] from hrow _]
      simp

/-- Settles O21: the opcode's row is in the table, and every row of the table agrees with the
encoder. -/
theorem encodeOfDecode : Obligations.EncodeOfDecode := by
  intro bs i rest h
  obtain ⟨op, b, tail, rfl, hl, hf⟩ := decode_ok_cases h
  exact finish_ok_encode (opcodeTable_encodes _ (row_of_lookup hl)) hf

theorem encode_length (i : Instr) : (encode i).length = i.length := by
  obtain ⟨-, hlen, -⟩ := Laws.FormTable.statement_holds i
  exact hlen

/-- R61: the decoder takes as many bytes as the instruction's mode says. -/
theorem decode_ok_length {bs : List Byte} {i : Instr} {rest : List Byte}
    (h : decode bs = .ok (i, rest)) : bs.length = i.length + rest.length := by
  rw [encodeOfDecode bs i rest h, List.length_append, encode_length]

theorem decode_ok_opcode {op : Byte} {bs : List Byte} {i : Instr} {rest : List Byte}
    (h : decode (op :: bs) = .ok (i, rest)) : op = i.opcode := by
  have henc := encodeOfDecode _ _ _ h
  rw [encode, List.cons_append] at henc
  exact (List.cons.inj henc).1

/-! ### The opcode byte determines the form -/

/-- The instruction a row builds from operand bytes that are all 0: it shows the row's form. -/
def Build.sample : Build → Instr
  | .done i => i
  | .byte f => f 0
  | .word f => f 0

/-- The form of an instruction is that of its opcode's row, whatever the operand bytes. -/
theorem form_of_lookup (i : Instr) :
    (lookupOpcode i.opcode).map (fun b => b.sample.form) = some i.form := by
  cases i <;> rfl

theorem form_eq_of_opcode_eq {i j : Instr} (h : i.opcode = j.opcode) : i.form = j.form :=
  Option.some.inj ((form_of_lookup i).symm.trans (h ▸ form_of_lookup j))

/-- R61: an instruction is one to three bytes long. -/
theorem length_bounds (i : Instr) : 1 ≤ i.length ∧ i.length ≤ 3 := by
  rw [← encode_length]
  exact ⟨Nat.le_add_left 1 _, encode_length_le i⟩

/-- Settles O19: both instructions have the opcode `op`, so one form; the mode of the form gives the
length, and the decoder takes that many bytes (`decode_ok_length`). -/
theorem opcodeByteDeterminesFormAndLength : Obligations.OpcodeByteDeterminesFormAndLength := by
  intro op bs bs' i i' r r' h h'
  have hform : i.form = i'.form :=
    form_eq_of_opcode_eq ((decode_ok_opcode h).symm.trans (decode_ok_opcode h'))
  have hlen : i.length = i'.length := congrArg (fun f : Form => f.mode.length) hform
  exact ⟨hform, hlen, decode_ok_length h, length_bounds i⟩

/-! ### The undefined opcodes -/

/-- R79 and R81 list complementary bytes.  The search compares numbers, which the kernel does fast. -/
theorem table_covers_iff_not_undefined (op : Byte) :
    (opcodeTable.any fun row => row.opcode.toNat.beq op.toNat) =
      !undefinedOpcodes.any fun u => u.toNat.beq op.toNat := by
  revert op
  decide

theorem lookupOpcode_eq_none_iff (op : Byte) : lookupOpcode op = none ↔ op ∈ undefinedOpcodes :=
  calc lookupOpcode op = none
    _ ↔ (opcodeTable.any fun row => row.opcode.toNat.beq op.toNat) = false := by
      simp [lookupOpcode, BitVec.toNat_inj]
    _ ↔ (undefinedOpcodes.any fun u => u.toNat.beq op.toNat) = true := by
      simp [table_covers_iff_not_undefined]
    _ ↔ op ∈ undefinedOpcodes := by simp [BitVec.toNat_inj]

/-- Only a byte without a row is rejected as undefined. -/
theorem decode_eq_undefinedOpcode_iff (op : Byte) (rest : List Byte) :
    decode (op :: rest) = .error (.undefinedOpcode op) ↔ lookupOpcode op = none := by
  refine ⟨fun h => ?_, fun h => decode_of_undefined h rest⟩
  cases hl : lookupOpcode op with
  | none => rfl
  | some b =>
    rw [decode_of_defined hl] at h
    cases b with
    | done => cases h
    | byte => cases rest <;> cases h
    | word => rcases rest with - | ⟨_, - | _⟩ <;> cases h

/-- Settles O18: rejected as undefined is having no row, and the bytes without a row are those of
R81. -/
theorem undefinedOpcodesAreRejected : Obligations.UndefinedOpcodesAreRejected := by
  intro op rest
  have h := (decode_eq_undefinedOpcode_iff op rest).trans (lookupOpcode_eq_none_iff op)
  exact ⟨h.2, mt h.1⟩

/-! ### Operand bytes and modes -/

theorem encode_of_arg {i : Instr} {o : Arg} (h : i.arg = o) : encode i = i.opcode :: o.bytes := by
  rw [encode, h]

/-- A 16-bit operand is encoded low byte first. -/
theorem encode_word_of_arg {i : Instr} {o : Arg} {w : Word} (harg : i.arg = o)
    (hw : o.bytes = [lo w, hi w]) :
    ∃ l h : Byte, encode i = [i.opcode, l, h] ∧ w.toNat = wordNat l h := by
  refine ⟨lo w, hi w, (encode_of_arg harg).trans (congrArg _ hw), ?_⟩
  rw [wordNat, ← word_toNat, Machine.word_lo_hi]

/-- R77: an instruction's mode is one its mnemonic accepts. -/
theorem mode_mem_acceptedModes (i : Instr) : i.mode ∈ acceptedModes i.mnemonic := by
  obtain ⟨hwf, -⟩ := Laws.FormTable.statement_holds i
  exact List.contains_iff_mem.1 hwf

/-- R69: only LDX and STX accept the zero page indexed by Y. -/
theorem accepts_zeropageY {m : Mnemonic} (h : Mode.zeropageY ∈ acceptedModes m) :
    m = .ldx ∨ m = .stx := by
  cases m <;> simp [acceptedModes, readModes, modifyModes] at h ⊢

/-- R75: only JMP accepts the indirect mode. -/
theorem accepts_indirect {m : Mnemonic} (h : Mode.indirect ∈ acceptedModes m) : m = .jmp := by
  cases m <;> simp [acceptedModes, readModes, modifyModes] at h ⊢

end Sys2Proof

namespace Sys2Proof.Machine

/-! ### Operands -/

/-- Settles O27: these three modes hold at most one literal byte. -/
theorem operandsWithoutAnAddress : Obligations.OperandsWithoutAnAddress := by
  refine ⟨fun i s h => ?_, fun i s h => ?_, fun i s v h => ?_⟩
  · exact ⟨encode_of_arg h, h ▸ rfl, h ▸ rfl⟩
  · exact ⟨encode_of_arg h, h ▸ rfl, rfl, fun _ => rfl⟩
  · exact ⟨encode_of_arg h, h ▸ rfl⟩

/-- Settles O35: the immediate mode, the one whose value is not read from memory, has no address. -/
theorem operandValueIsTheByteAtItsAddress : Obligations.OperandValueIsTheByteAtItsAddress := by
  intro o s ea h
  have hval : operandValue o s = (effectiveAddress o s).map s.readByte := by
    cases o with
    | immediate => cases h
    | _ => rfl
  rw [hval, h]; rfl

/-! ### Effective addresses as numbers -/

theorem zext16_eq_ofNat (b : Byte) : zext16 b = BitVec.ofNat 16 b.toNat :=
  (BitVec.ofNat_toNat 16 b).symm

theorem eaZeropage_toNat (z : Byte) : (eaZeropage z).toNat = z.toNat := zext16_toNat z

theorem eaZeropageX_toNat (z : Byte) (s : State) :
    (eaZeropageX z s).toNat = (z.toNat + s.x.toNat) % 256 := by
  rw [eaZeropageX, zext16_toNat, BitVec.toNat_add]

theorem eaZeropageY_toNat (z : Byte) (s : State) :
    (eaZeropageY z s).toNat = (z.toNat + s.y.toNat) % 256 := by
  rw [eaZeropageY, zext16_toNat, BitVec.toNat_add]

theorem eaAbsoluteX_toNat (w : Word) (s : State) :
    (eaAbsoluteX w s).toNat = (w.toNat + s.x.toNat) % 65536 := by
  rw [eaAbsoluteX, BitVec.toNat_add, zext16_toNat]

theorem eaAbsoluteY_toNat (w : Word) (s : State) :
    (eaAbsoluteY w s).toNat = (w.toNat + s.y.toNat) % 65536 := by
  rw [eaAbsoluteY, BitVec.toNat_add, zext16_toNat]

/-- R43: both bytes of a zero-page word are read in the zero page. -/
theorem readWordZP_toNat (s : State) (z : Byte) :
    (s.readWordZP z).toNat =
      wordNat (s.readByte (BitVec.ofNat 16 z.toNat))
        (s.readByte (BitVec.ofNat 16 ((z.toNat + 1) % 256))) := by
  rw [State.readWordZP, word_toNat, zext16_eq_ofNat, zext16_eq_ofNat, BitVec.toNat_add, wordNat]
  rfl

theorem eaIndirectX_toNat (z : Byte) (s : State) :
    (eaIndirectX z s).toNat =
      wordNat (s.readByte (BitVec.ofNat 16 ((z.toNat + s.x.toNat) % 256)))
        (s.readByte (BitVec.ofNat 16 ((z.toNat + s.x.toNat + 1) % 256))) := by
  rw [eaIndirectX, readWordZP_toNat, BitVec.toNat_add, Nat.mod_add_mod]

theorem eaIndirectY_toNat (z : Byte) (s : State) :
    (eaIndirectY z s).toNat =
      (wordNat (s.readByte (BitVec.ofNat 16 z.toNat))
        (s.readByte (BitVec.ofNat 16 ((z.toNat + 1) % 256))) + s.y.toNat) % 65536 := by
  rw [eaIndirectY, BitVec.toNat_add, readWordZP_toNat, zext16_toNat]

/-- The high byte's address has the pointer's high byte, and its low byte plus 1 modulo 256. -/
theorem indirectHighAddr_eq_word (p : Word) : indirectHighAddr p = word (lo p + 1) (hi p) := by
  have hpage : p &&& (0xFF00 : Word) = zext16 (hi p) <<< 8 := by
    have hhi : zext16 (hi p) = p >>> 8 := by
      apply BitVec.eq_of_toNat_eq
      rw [zext16_toNat, hi_toNat, BitVec.toNat_ushiftRight, Nat.shiftRight_eq_div_pow]
    rw [hhi, BitVec.shiftLeft_ushiftRight]
    rfl
  rw [indirectHighAddr, hpage, word, BitVec.or_comm]

/-- R75: the address of the high byte stays in the pointer's page. -/
theorem indirectHighAddr_eq (p : Word) :
    indirectHighAddr p =
      BitVec.ofNat 16 (if p.toNat % 256 = 255 then p.toNat - 255 else p.toNat + 1) := by
  have hp := p.isLt
  have hone : (1 : Byte).toNat = 1 := rfl
  apply BitVec.eq_of_toNat_eq
  rw [indirectHighAddr_eq_word, word_toNat, BitVec.toNat_add, lo_toNat, hi_toNat, hone,
    BitVec.toNat_ofNat]
  split <;> omega

theorem eaIndirect_toNat (p : Word) (s : State) :
    (eaIndirect p s).toNat =
      wordNat (s.readByte p)
        (s.readByte (BitVec.ofNat 16
          (if p.toNat % 256 = 255 then p.toNat - 255 else p.toNat + 1))) := by
  rw [eaIndirect, indirectHighAddr_eq, word_toNat, wordNat]

/-- R76: the displacement is signed. -/
theorem eaRelative_toNat (d : Byte) (s : State) :
    ((eaRelative d s).toNat : Int) = ((s.pc.toNat : Int) + d.toInt) % 65536 := by
  have hd := BitVec.toInt_eq_toNat_cond (sext16 d)
  rw [eaRelative, BitVec.toNat_add, ← sext16_toInt, hd]
  split <;> omega

/-! ### The addressing modes -/

/-- Settles O28: 8-bit addition is modulo 256. -/
theorem zeroPageModesWrapInPageZero : Obligations.ZeroPageModesWrapInPageZero := by
  refine ⟨fun i s z h => ?_, fun i s z h => ?_, fun i s z h => ?_⟩
  · exact ⟨encode_of_arg h, h ▸ congrArg some (eaZeropage_toNat z)⟩
  · exact ⟨encode_of_arg h, h ▸ congrArg some (eaZeropageX_toNat z s)⟩
  · have hmode : i.mode = .zeropageY := congrArg Arg.mode h
    exact ⟨encode_of_arg h, accepts_zeropageY (hmode ▸ mode_mem_acceptedModes i),
      h ▸ congrArg some (eaZeropageY_toNat z s)⟩

/-- Settles O29: 16-bit addition is modulo 65536. -/
theorem absoluteModesAddIn16Bits : Obligations.AbsoluteModesAddIn16Bits := by
  refine ⟨fun i s w h => ?_, fun i s w h => ?_, fun i s w h => ?_⟩
  · exact ⟨encode_word_of_arg h rfl, h ▸ rfl⟩
  · exact ⟨encode_word_of_arg h rfl, h ▸ congrArg some (eaAbsoluteX_toNat w s)⟩
  · exact ⟨encode_word_of_arg h rfl, h ▸ congrArg some (eaAbsoluteY_toNat w s)⟩

/-- Settles O30: the pointer and the address of its second byte are bytes. -/
theorem indirectXPointerWrapsInPageZero : Obligations.IndirectXPointerWrapsInPageZero :=
  fun _ s z h => ⟨encode_of_arg h, h ▸ congrArg some (eaIndirectX_toNat z s)⟩

/-- Settles O31: the pointer wraps in the zero page, and the sum with Y is 16 bits wide. -/
theorem indirectYAddsYToThePointedWord : Obligations.IndirectYAddsYToThePointedWord :=
  fun _ s z h => ⟨encode_of_arg h, h ▸ congrArg some (eaIndirectY_toNat z s)⟩

/-- Settles O32: the address of the high byte keeps the pointer's page (`indirectHighAddr_eq`). -/
theorem jumpIndirectHasThePageBoundaryBug : Obligations.JumpIndirectHasThePageBoundaryBug := by
  intro i s p h
  have hmode : i.mode = .indirect := congrArg Arg.mode h
  exact ⟨accepts_indirect (hmode ▸ mode_mem_acceptedModes i), encode_word_of_arg h rfl,
    h ▸ congrArg some (eaIndirect_toNat p s)⟩

/-- Settles O33: sign extension keeps the signed value of the displacement. -/
theorem relativeTargetIsSigned : Obligations.RelativeTargetIsSigned :=
  fun _ s d h => ⟨encode_of_arg h, h ▸ congrArg some (eaRelative_toNat d s)⟩

/-! ### Assembled branches -/

/-- A word in the range of a signed byte is the sign extension of its low byte. -/
theorem sext16_ofInt_toInt {w : Word} (hl : -128 ≤ w.toInt) (hu : w.toInt ≤ 127) :
    sext16 (BitVec.ofInt 8 w.toInt) = w := by
  apply BitVec.eq_of_toInt_eq
  rw [sext16_toInt, BitVec.toInt_ofInt]
  exact Int.bmod_eq_of_le hl (by omega)

/-- R84: a target has a displacement byte exactly when that byte, sign-extended, leads to it. -/
theorem encodeRelative_eq_some_iff {p target : Word} {d : Byte} :
    encodeRelative p target = some d ↔ target = p + 2 + sext16 d := by
  constructor
  · intro h
    simp only [encodeRelative, Option.ite_none_right_eq_some, Option.some.injEq] at h
    obtain ⟨⟨hl, hu⟩, rfl⟩ := h
    rw [sext16_ofInt_toInt hl hu, BitVec.add_comm, BitVec.sub_add_cancel]
  · rintro rfl
    obtain ⟨hl, hu⟩ := signed_range d
    have hdisp : (p + 2 + sext16 d - (p + 2)).toInt = d.toInt := by
      rw [BitVec.add_comm (p + 2), BitVec.add_sub_cancel, sext16_toInt]
    simp only [encodeRelative, hdisp, BitVec.ofInt_toInt]
    exact if_pos ⟨hl, hu⟩

/-- Settles O23 by `encodeRelative_eq_some_iff`, in each direction once. -/
theorem assembledBranchReachesItsTarget : Obligations.AssembledBranchReachesItsTarget := by
  constructor
  · intro p target d s h hpc
    rw [encodeRelative_eq_some_iff.1 h, ← hpc]
    rfl
  · exact fun p d => encodeRelative_eq_some_iff.2 rfl

/-! ### Steps and runs -/

/-- Settles O16: the decoded bytes are those of the fetch, and they are three. -/
theorem stepRunsDecodedInstruction : Obligations.StepRunsDecodedInstruction := by
  intro s i rest hr h
  exact ⟨step_of_fetch hr (fetchInstr_of_decode h), (decode_ok_length h).symm⟩

/-- Settles O9 by `stepHalted`, the model's choice of D8. -/
theorem haltedStateIsFinal : Obligations.HaltedStateIsFinal :=
  fun _ h => ⟨step_halted h, rfl⟩

/-- BRK clears `running` and by O12 every other instruction leaves it. -/
theorem exec_halts_iff {i : Instr} {s t : State} (h : exec i s = .next t) (hr : s.running = true) :
    t.running = false ↔ i = .brk := by
  constructor
  · intro ht
    by_contra hi
    have hm : i.mnemonic ≠ .brk := fun hm => hi (eq_brk_of_mnemonic hm)
    obtain ⟨-, -, -, -, -, hkeep⟩ := registersAreWrittenOnlyByTheirInstructions i s t h
    have hts : t.running = s.running := hkeep (by simpa using hm)
    simp [hts, hr] at ht
  · rintro rfl
    cases h
    rfl

/-- A run that faults stops in the running state whose step raised the fault. -/
theorem running_of_runUntilHalt_faulted {k : Nat} {s t : State} {r : Fault}
    (h : runUntilHalt k s = .faulted r t) : t.running = true := by
  induction k generalizing s with
  | zero =>
    rw [runUntilHalt] at h
    split at h <;> cases h
  | succ k ih =>
    rw [runUntilHalt] at h
    split at h
    · next hr =>
      split at h
      · exact ih h
      · cases h; exact hr
      · cases h
    · cases h

/-- Settles O8: a step from a running state is `exec` of the instruction at PC (`exec_halts_iff`), and
a decode error changes no state (`running_of_runUntilHalt_faulted`). -/
theorem onlyBrkHalts : Obligations.OnlyBrkHalts := by
  refine ⟨rfl, fun i s t h hr => exec_halts_iff h hr, fun s t hr h => ?_,
    fun k s t r h => running_of_runUntilHalt_faulted h⟩
  rcases step_next_cases h with ⟨hhalt, -⟩ | ⟨-, i, hf, he⟩
  · simp [hr] at hhalt
  · rw [exec_halts_iff he hr, hf, Option.some.injEq]

end Sys2Proof.Machine
end

section
/-! PROOFS. The next state of an instruction is its mnemonic's operation, applied to the value or to the
address its mode gives; for loads and stores (40_load_store.md R100) that operation writes one register
and Z, N, or one byte of memory. -/

namespace Sys2Proof.Machine

/-! ### The operation of a mnemonic, whatever the mode -/

/-- The operation of a mnemonic that works on its operand's value. -/
def valueOperation : Mnemonic → Option (Byte → State → State)
  | .lda => some loadA | .ldx => some loadX | .ldy => some loadY
  | .ora => some orA | .and => some andA | .eor => some eorA
  | .adc => some addCarry | .sbc => some subCarry
  | .cmp => some compareA | .cpx => some compareX | .cpy => some compareY
  | .bit => some bitTest
  | _ => none

/-- The operation of a mnemonic that works on its operand's address. -/
def addressOperation : Mnemonic → Option (Word → State → State)
  | .sta => some storeA | .stx => some storeX | .sty => some storeY
  | .inc => some incMem | .dec => some decMem
  | .jmp => some jump | .jsr => some callSubroutine
  | _ => none

theorem ExecShape.of_valueOperation {i : Instr} {s t : State} {f : Byte → State → State}
    (h : ExecShape i s t) (hf : valueOperation i.mnemonic = some f) :
    ∃ m, operandValue i.arg s = some m ∧ t = f m s := by
  cases h with
  | lda hm ho | ldx hm ho | ldy hm ho | ora hm ho | and hm ho | eor hm ho | adc hm ho | sbc hm ho
  | cmp hm ho | cpx hm ho | cpy hm ho | bit hm ho =>
    rw [hm] at hf; cases hf; exact ⟨_, ho, rfl⟩
  | sta hm | stx hm | sty hm | inc hm | dec hm | asl hm | lsr hm | rol hm | ror hm | jmp hm | jsr hm =>
    rw [hm] at hf; cases hf
  | _ => subst i; cases hf

theorem ExecShape.of_addressOperation {i : Instr} {s t : State} {f : Word → State → State}
    (h : ExecShape i s t) (hf : addressOperation i.mnemonic = some f) :
    ∃ ea, effectiveAddress i.arg s = some ea ∧ t = f ea s := by
  cases h with
  | sta hm ho | stx hm ho | sty hm ho | inc hm ho | dec hm ho | jmp hm ho | jsr hm ho =>
    rw [hm] at hf; cases hf; exact ⟨_, ho, rfl⟩
  | lda hm | ldx hm | ldy hm | ora hm | and hm | eor hm | asl hm | lsr hm | rol hm | ror hm | adc hm
  | sbc hm | cmp hm | cpx hm | cpy hm | bit hm =>
    rw [hm] at hf; cases hf
  | _ => subst i; cases hf

theorem exec_of_valueOperation {i : Instr} {f : Byte → State → State}
    (hf : valueOperation i.mnemonic = some f) (s : State) :
    ∃ m, operandValue i.arg s = some m ∧ exec i s = .next (f m s) := by
  obtain ⟨t, ht⟩ := exec_completes i s
  obtain ⟨m, hm, rfl⟩ := (exec_next_shape ht).of_valueOperation hf
  exact ⟨m, hm, ht⟩

theorem exec_of_addressOperation {i : Instr} {f : Word → State → State}
    (hf : addressOperation i.mnemonic = some f) (s : State) :
    ∃ ea, effectiveAddress i.arg s = some ea ∧ exec i s = .next (f ea s) := by
  obtain ⟨t, ht⟩ := exec_completes i s
  obtain ⟨ea, hea, rfl⟩ := (exec_next_shape ht).of_addressOperation hf
  exact ⟨ea, hea, ht⟩

/-! ### Loads and stores -/

/-- Settles O34: each mnemonic's operation (`exec_of_valueOperation`, `exec_of_addressOperation`) is a
load, with Z and N over numbers (`setZN_eq_withZN`), or a store. -/
theorem loadsAndStoresFollowTheirContract : Obligations.LoadsAndStoresFollowTheirContract := by
  intro i s
  refine ⟨fun hm => ?lda, fun hm => ?ldx, fun hm => ?ldy, fun hm => ?sta, fun hm => ?stx,
    fun hm => ?sty⟩
  case lda | ldx | ldy =>
    simpa only [loadA_eq, loadX_eq, loadY_eq, setZN_eq_withZN] using
      exec_of_valueOperation (congrArg valueOperation hm) s
  case sta | stx | sty =>
    simpa only [storeA_eq, storeX_eq, storeY_eq] using
      exec_of_addressOperation (congrArg addressOperation hm) s

end Sys2Proof.Machine
end

section
/-! PROOFS. The logical operations (41_logic.md R110 to R112): ORA, AND and EOR write A, bit by bit, and
Z and N. -/

namespace Sys2Proof.Machine

/-- Settles O36: each mnemonic's operation (`exec_of_valueOperation`) puts the bitwise result in A, and
a bit of that result is the Boolean operation on the two bits. -/
theorem logicWritesAAndZN : Obligations.LogicWritesAAndZN := by
  intro i s hmem
  obtain hm | hm | hm : i.mnemonic = .ora ∨ i.mnemonic = .and ∨ i.mnemonic = .eor := by
    simpa using hmem
  all_goals obtain ⟨m, ho, he⟩ := exec_of_valueOperation (congrArg valueOperation hm) s
  · rw [orA_eq, setZN_eq_withZN] at he
    exact ⟨m, s.a ||| m, ho, fun k _ => by simp [hm], he⟩
  · rw [andA_eq, setZN_eq_withZN] at he
    exact ⟨m, s.a &&& m, ho, fun k _ => by simp [hm], he⟩
  · rw [eorA_eq, setZN_eq_withZN] at he
    exact ⟨m, s.a ^^^ m, ho, fun k _ => by simp [hm], he⟩

end Sys2Proof.Machine
end

section
/-! PROOFS. Increment and decrement (42_inc_dec.md R120 to R125): plus or minus 1 modulo 256 as numbers,
of a byte of memory or of an index register, with Z and N from the result. -/

namespace Sys2Proof.Machine

/-! ### Plus and minus 1 as numbers -/

theorem increment_toNat (b : Byte) : (b + 1).toNat = (b.toNat + 1) % 256 := BitVec.toNat_add b 1

theorem decrement_toNat (b : Byte) : (b - 1).toNat = (b.toNat + 255) % 256 := by
  rw [BitVec.toNat_sub, Nat.add_comm]; rfl

/-! ### Memory and index registers -/

/-- Settles O37: each mnemonic's operation (`exec_of_addressOperation`) writes the byte plus or minus 1
back to its address. -/
theorem incrementAndDecrementMemory : Obligations.IncrementAndDecrementMemory := by
  rintro i s (hm | hm)
  all_goals obtain ⟨ea, ho, he⟩ := exec_of_addressOperation (congrArg addressOperation hm) s
  · rw [incMem_eq, setZN_eq_withZN] at he
    exact ⟨ea, s.readByte ea + 1, ho, by rw [increment_toNat, if_pos hm], he⟩
  · rw [decMem_eq, setZN_eq_withZN] at he
    exact ⟨ea, s.readByte ea - 1, ho, by rw [decrement_toNat, hm]; rfl, he⟩

/-- `SetZN` on a state, with Z and N over numbers (R29). -/
theorem State.setZN_eq (s : State) (r : Byte) : s.setZN r = { s with flags := s.flags.withZN r } :=
  congrArg s.setFlags (setZN_eq_withZN s.flags r)

/-- Settles O38: the result is the register plus or minus 1, as a number by `increment_toNat` and
`decrement_toNat`. -/
theorem incrementAndDecrementRegisters : Obligations.IncrementAndDecrementRegisters := by
  intro s
  refine ⟨⟨s.x + 1, increment_toNat s.x, ?_⟩, ⟨s.y + 1, increment_toNat s.y, ?_⟩,
    ⟨s.x - 1, decrement_toNat s.x, ?_⟩, ⟨s.y - 1, decrement_toNat s.y, ?_⟩⟩
  all_goals exact congrArg _ (State.setZN_eq _ _)

end Sys2Proof.Machine
end

section
/-! PROOFS. Shifts and rotates (43_shifts.md R130 to R134): the result and the carry out hold the operand
and the carry in, moved by one bit; ASL and LSR are ROL and ROR with a clear carry in. -/

namespace Sys2Proof.Machine

/-! ### One bit moved, as numbers -/

theorem flagAt_toNat (b : Bool) {k : Nat} (hk : k < 8) : (flagAt b k).toNat = 2 ^ k * bitNat b := by
  revert b k
  decide

theorem bitNat_bit_seven (v : Byte) : bitNat (v.getLsbD 7) = v.toNat / 128 := by
  have hv := v.isLt
  rw [getLsbD_seven, bitNat]
  simp only [decide_eq_true_eq]
  split <;> omega

theorem bitNat_bit_zero (v : Byte) : bitNat (v.getLsbD 0) = v.toNat % 2 := by
  rw [getLsbD_eq_div, bitNat]
  simp only [pow_zero, Nat.div_one, decide_eq_true_eq]
  split <;> omega

/-- The shifted byte has a clear bit 0, so the carry in is added there. -/
theorem rolResult_toNat (v : Byte) (c : Bool) :
    (rolResult v c).toNat = 2 ^ 1 * (v.toNat % 128) + bitNat c := by
  have hshift : (v <<< 1).toNat = 2 ^ 1 * (v.toNat % 128) := by
    rw [BitVec.toNat_shiftLeft, Nat.shiftLeft_eq]
    omega
  have hc : bitNat c < 2 ^ 1 := Nat.lt_succ_of_le (bitNat_le_one c)
  rw [rolResult, BitVec.toNat_or, hshift, flagAt_toNat c (by decide), pow_zero, one_mul,
    Nat.two_pow_add_eq_or_of_lt hc]

/-- The shifted byte has a clear bit 7, so the carry in is added there. -/
theorem rorResult_toNat (v : Byte) (c : Bool) :
    (rorResult v c).toNat = 2 ^ 7 * bitNat c + v.toNat / 2 := by
  have hv : v.toNat / 2 < 2 ^ 7 := Nat.div_lt_of_lt_mul v.isLt
  rw [rorResult, BitVec.toNat_or, BitVec.toNat_ushiftRight, Nat.shiftRight_eq_div_pow, pow_one,
    flagAt_toNat c (by decide), Nat.or_comm, Nat.two_pow_add_eq_or_of_lt hv]

/-- R133 over numbers: the carry enters below the byte and bit 7 leaves it. -/
theorem rol_value (v : Byte) (c : Bool) :
    (rolResult v c).toNat + 256 * bitNat (v.getLsbD 7) = 2 * v.toNat + bitNat c := by
  rw [rolResult_toNat, bitNat_bit_seven]
  omega

/-- R134 over numbers: the carry enters above the byte and bit 0 leaves it. -/
theorem ror_value (v : Byte) (c : Bool) :
    2 * (rorResult v c).toNat + bitNat (v.getLsbD 0) = v.toNat + 256 * bitNat c := by
  rw [rorResult_toNat, bitNat_bit_zero]
  omega

theorem rolResult_false (v : Byte) : rolResult v false = aslResult v := BitVec.or_zero

theorem rorResult_false (v : Byte) : rorResult v false = lsrResult v := BitVec.or_zero

/-- R131 over numbers. -/
theorem asl_value (v : Byte) :
    (aslResult v).toNat + 256 * bitNat (v.getLsbD 7) = 2 * v.toNat :=
  rolResult_false v ▸ rol_value v false

/-- R132 over numbers. -/
theorem lsr_value (v : Byte) : 2 * (lsrResult v).toNat + bitNat (v.getLsbD 0) = v.toNat :=
  rorResult_false v ▸ ror_value v false

/-! ### The operation on its place -/

/-- What the four shifts share (R130), with Z and N over numbers. -/
theorem shiftTo_eq_withZN (p : Place) (r : Byte) (c : Bool) (s : State) :
    shiftTo p r c s = { s.putPlace p r with flags := { s.flags.withZN r with c := c } } := by
  rw [← setZN_eq_withZN]
  cases p with
  | acc => exact shiftTo_acc s r c
  | mem ea => exact shiftTo_mem s ea r c

/-- The operation of a mnemonic that works on a shift operand. -/
def shiftOperation : Mnemonic → Option (Place → State → State)
  | .asl => some shiftLeft | .lsr => some shiftRight
  | .rol => some rotateLeft | .ror => some rotateRight
  | _ => none

theorem ExecShape.of_shiftOperation {i : Instr} {s t : State} {f : Place → State → State}
    (h : ExecShape i s t) (hf : shiftOperation i.mnemonic = some f) :
    ∃ p, shiftPlace i.arg s = some p ∧ t = f p s := by
  cases h with
  | asl hm ho | lsr hm ho | rol hm ho | ror hm ho =>
    rw [hm] at hf; cases hf; exact ⟨_, ho, rfl⟩
  | lda hm | ldx hm | ldy hm | sta hm | stx hm | sty hm | ora hm | and hm | eor hm | inc hm | dec hm
  | adc hm | sbc hm | cmp hm | cpx hm | cpy hm | bit hm | jmp hm | jsr hm =>
    rw [hm] at hf; cases hf
  | _ => subst i; cases hf

theorem exec_of_shiftOperation {i : Instr} {f : Place → State → State}
    (hf : shiftOperation i.mnemonic = some f) (s : State) :
    ∃ p, shiftPlace i.arg s = some p ∧ exec i s = .next (f p s) := by
  obtain ⟨t, ht⟩ := exec_completes i s
  obtain ⟨p, hp, rfl⟩ := (exec_next_shape ht).of_shiftOperation hf
  exact ⟨p, hp, ht⟩

/-- Settles O39: each mnemonic's operation (`exec_of_shiftOperation`) puts its result in the operand's
place (`shiftTo_eq_withZN`), and `asl_value` to `ror_value` say what result and carry are. -/
theorem shiftsMoveOneBitThroughCarry : Obligations.ShiftsMoveOneBitThroughCarry := by
  intro i s hmem
  obtain hm | hm | hm | hm :
      i.mnemonic = .asl ∨ i.mnemonic = .lsr ∨ i.mnemonic = .rol ∨ i.mnemonic = .ror := by
    simpa using hmem
  all_goals obtain ⟨p, ho, he⟩ := exec_of_shiftOperation (congrArg shiftOperation hm) s
  · rw [shiftLeft, shiftTo_eq_withZN] at he
    exact ⟨p, _, _, ho, he, by simpa [hm] using asl_value (s.getPlace p)⟩
  · rw [shiftRight, shiftTo_eq_withZN] at he
    exact ⟨p, _, _, ho, he, by simpa [hm] using lsr_value (s.getPlace p)⟩
  · rw [rotateLeft, shiftTo_eq_withZN] at he
    exact ⟨p, _, _, ho, he, by simpa [hm] using rol_value (s.getPlace p) s.flags.c⟩
  · rw [rotateRight, shiftTo_eq_withZN] at he
    exact ⟨p, _, _, ho, he, by simpa [hm] using ror_value (s.getPlace p) s.flags.c⟩

end Sys2Proof.Machine
end

section
/-! PROOFS. Arithmetic and comparison (44_arith_compare.md R140 to R146): ADC, SBC, the compares and BIT
as numbers, and SBC as ADC of the complement. -/

namespace Sys2Proof.Machine

/-! ### ADC and SBC -/

/-- What ADC and SBC share, with Z and N over numbers. -/
theorem accumulate_eq_withZN (r : Byte) (c v : Bool) (s : State) :
    accumulate r c v s = { s with a := r, flags := { s.flags.withZN r with c := c, v := v } } := by
  rw [accumulate_eq, setZN_eq_withZN]

/-- Settles O40: ADC's operation (`exec_of_valueOperation`) puts the sum in A and C (`adc_value`), and
V is R140's sign test (`adcOverflow_eq`). -/
theorem adcAddsWithCarry : Obligations.AdcAddsWithCarry := by
  intro i s hm
  obtain ⟨m, ho, he⟩ := exec_of_valueOperation (congrArg valueOperation hm) s
  rw [addCarry, accumulate_eq_withZN, adcOverflow_eq] at he
  exact ⟨m, _, _, ho, adc_value s.a m s.flags.c, he⟩

/-- Settles O41: SBC's operation (`exec_of_valueOperation`) puts the difference in A and C
(`sbc_value`), and V is R141's sign test (`sbcOverflow_eq`). -/
theorem sbcSubtractsWithBorrow : Obligations.SbcSubtractsWithBorrow := by
  intro i s hm
  obtain ⟨m, ho, he⟩ := exec_of_valueOperation (congrArg valueOperation hm) s
  rw [subCarry, accumulate_eq_withZN, sbcOverflow_eq] at he
  exact ⟨m, _, _, ho, sbc_value s.a m s.flags.c, he⟩

/-! ### SBC as ADC of the complement -/

theorem xor_ff_eq_not (m : Byte) : m ^^^ 0xFF = ~~~m := BitVec.xor_allOnes

/-- The complement of `m` is `255 - m`, so R140's sum lies 256 above R141's difference. -/
theorem adcSum_complement (a m : Byte) (c : Bool) :
    (adcSum a (m ^^^ 0xFF) c : Int) = sbcDiff a m c + 256 := by
  have hm : (m ^^^ 0xFF).toNat = 2 ^ 8 - 1 - m.toNat := by rw [xor_ff_eq_not, BitVec.toNat_not]
  have hlt := m.isLt
  rw [adcSum, sbcDiff, hm]
  omega

theorem adcResult_complement (a m : Byte) (c : Bool) :
    adcResult a (m ^^^ 0xFF) c = sbcResult a m c := by
  apply BitVec.eq_of_toInt_eq
  rw [adcResult, sbcResult, BitVec.toInt_ofNat', BitVec.toInt_ofInt, adcSum_complement]
  exact Int.add_bmod_right _ _

theorem adcCarry_complement (a m : Byte) (c : Bool) :
    adcCarry a (m ^^^ 0xFF) c = sbcCarry a m c := by
  have := adcSum_complement a m c
  rw [adcCarry, sbcCarry, decide_eq_decide]
  omega

/-- The complement has the other sign, so R140's and R141's sign tests agree. -/
theorem adcOverflow_complement (a m r : Byte) :
    adcOverflow a (m ^^^ 0xFF) r = sbcOverflow a m r := by
  have hsign : (m ^^^ 0xFF).msb = !m.msb := by rw [xor_ff_eq_not, BitVec.msb_not]; rfl
  rw [adcOverflow_eq, sbcOverflow_eq, hsign]
  simp only [Bool.eq_not, ne_eq]

theorem addCarry_complement (m : Byte) (s : State) : addCarry (m ^^^ 0xFF) s = subCarry m s := by
  rw [addCarry, subCarry, adcResult_complement, adcCarry_complement, adcOverflow_complement]

/-- Settles O43: result, C and V of the two operations agree (`addCarry_complement`). -/
theorem sbcEqualsAdcOfComplement : Obligations.SbcEqualsAdcOfComplement := fun s m =>
  congrArg _ (addCarry_complement m s).symm

/-! ### Compares and BIT -/

/-- Settles O44: each mnemonic's operation (`exec_of_valueOperation`) is R142's comparison of its
register (`compare_eq`). -/
theorem comparesSetCarryZeroNegative : Obligations.ComparesSetCarryZeroNegative := by
  intro i s hmem
  obtain hm | hm | hm : i.mnemonic = .cmp ∨ i.mnemonic = .cpx ∨ i.mnemonic = .cpy := by
    simpa using hmem
  all_goals obtain ⟨m, ho, he⟩ := exec_of_valueOperation (congrArg valueOperation hm) s
  · rw [compareA_eq, compare_eq, Nat.add_comm] at he
    exact ⟨s.a, m, ho, by simp [hm], he⟩
  · rw [compareX_eq, compare_eq, Nat.add_comm] at he
    exact ⟨s.x, m, ho, by simp [hm], he⟩
  · rw [compareY_eq, compare_eq, Nat.add_comm] at he
    exact ⟨s.y, m, ho, by simp [hm], he⟩

theorem getLsbD_six (v : Byte) : v.getLsbD 6 = decide (64 ≤ v.toNat % 128) := by
  rw [getLsbD_eq_div, decide_eq_decide]
  omega

/-- R146 over numbers. -/
theorem bitTest_flags_eq (f : Flags) (a m : Byte) :
    f.bitTest a m =
      { f with
        z := decide ((a &&& m).toNat = 0), n := decide (128 ≤ m.toNat),
        v := decide (64 ≤ m.toNat % 128) } := by
  rw [Flags.bitTest, beq_zero_eq, getLsbD_seven, getLsbD_six]

/-- Settles O45: BIT's operation (`exec_of_valueOperation`) is R146's flag test of the byte
(`bitTest_flags_eq`). -/
theorem bitTestsTheMemoryByte : Obligations.BitTestsTheMemoryByte := by
  intro i s hm
  obtain ⟨m, ho, he⟩ := exec_of_valueOperation (congrArg valueOperation hm) s
  rw [bitTest_eq, bitTest_flags_eq] at he
  exact ⟨m, ho, he⟩

end Sys2Proof.Machine
end

section
/-! PROOFS. Control transfer (45_control.md R160 to R171): the branches, JMP, and JSR and RTS with
the stack's addresses as numbers. -/

namespace Sys2Proof.Machine

/-! ### Branches and jumps -/

/-- Settles O46: the relative mode is the eight branches', and each of them is `branch` of its flag
test, which writes PC only (`branch_eq`). -/
theorem branchesFollowTheirFlag : Obligations.BranchesFollowTheirFlag := by
  intro i s d h
  cases i with
  | bcc | bcs | beq | bmi | bne | bpl | bvc | bvs =>
    cases h
    exact ⟨eaRelative d s, _, rfl, by simp [Instr.mnemonic], congrArg _ (branch_eq s _ d)⟩
  | _ => cases h

/-- Settles O47: JMP's operation (`exec_of_addressOperation`) writes PC only (`jump_eq`). -/
theorem jumpSetsPC : Obligations.JumpSetsPC := by
  intro i s hm
  simpa only [jump_eq] using exec_of_addressOperation (congrArg addressOperation hm) s

/-! ### The stack pointer and its slots as numbers -/

/-- R23 over numbers. -/
theorem stackAddr_eq_ofNat (sp : Byte) : stackAddr sp = BitVec.ofNat 16 (256 + sp.toNat) := by
  rw [← stackAddr_toNat, BitVec.ofNat_toNat, BitVec.setWidth_eq]

theorem add_one_add_one_eq_ofNat (b : Byte) : b + 1 + 1 = BitVec.ofNat 8 (b.toNat + 2) := by
  apply BitVec.eq_of_toNat_eq
  rw [increment_toNat, increment_toNat, Nat.mod_add_mod, BitVec.toNat_ofNat]

theorem sub_one_sub_one_eq_ofNat (b : Byte) : b - 1 - 1 = BitVec.ofNat 8 (b.toNat + 254) := by
  apply BitVec.eq_of_toNat_eq
  rw [decrement_toNat, decrement_toNat, BitVec.toNat_ofNat]
  omega

/-- R26 over numbers: the high byte goes to the slot SP names, the low byte to the one below. -/
theorem pushWord_eq_ofNat (s : State) (w : Word) :
    s.pushWord w =
      { (s.writeByte (BitVec.ofNat 16 (256 + s.sp.toNat)) (hi w)).writeByte
          (BitVec.ofNat 16 (256 + (s.sp.toNat + 255) % 256)) (lo w) with
        sp := BitVec.ofNat 8 (s.sp.toNat + 254) } := by
  rw [pushWord_eq, stackAddr_eq_ofNat, stackAddr_eq_ofNat, decrement_toNat,
    sub_one_sub_one_eq_ofNat]
  rfl

/-- R27 over numbers: the two bytes popped are those of the slots above SP. -/
theorem popWord_eq_ofNat (s : State) :
    s.popWord = BitVec.ofNat 16
      (wordNat (s.readByte (BitVec.ofNat 16 (256 + (s.sp.toNat + 1) % 256)))
        (s.readByte (BitVec.ofNat 16 (256 + (s.sp.toNat + 2) % 256)))) := by
  rw [popWord_eq, add_one_add_one_eq_ofNat, stackAddr_eq_ofNat, stackAddr_eq_ofNat, increment_toNat,
    BitVec.toNat_ofNat, wordNat, ← word_toNat, BitVec.ofNat_toNat, BitVec.setWidth_eq]

theorem poppedWord_eq_ofNat (s : State) :
    s.poppedWord = { s with sp := BitVec.ofNat 8 (s.sp.toNat + 2) } := by
  rw [poppedWord_eq, add_one_add_one_eq_ofNat]

/-! ### Subroutine call and return -/

theorem exec_jsr (w : Word) (s : State) :
    exec (.jsr w) s = .next { s.pushWord (s.pc - 1) with pc := w } := rfl

theorem exec_rts (s : State) :
    exec .rts s = .next { s.poppedWord with pc := s.popWord + 1 } := rfl

/-- The two bytes of PC - 1 give it back as a number. -/
theorem wordNat_pred (p : Word) :
    wordNat (lo (p - 1)) (hi (p - 1)) = (p.toNat + 65535) % 65536 := by
  rw [wordNat, ← word_toNat, word_lo_hi, BitVec.toNat_sub, Nat.add_comm]
  rfl

/-- Settles O48: the bytes pushed are those of PC - 1 (`wordNat_pred`), in the slots of
`pushWord_eq_ofNat`. -/
theorem jsrPushesTheAddressOfItsLastByte : Obligations.JsrPushesTheAddressOfItsLastByte := by
  intro s w
  refine ⟨lo (s.pc - 1), hi (s.pc - 1), wordNat_pred s.pc, ?_⟩
  rw [exec_jsr, pushWord_eq_ofNat]

/-- Settles O49: the word popped is that of the slots above SP (`popWord_eq_ofNat`). -/
theorem rtsReturnsPastThePoppedWord : Obligations.RtsReturnsPastThePoppedWord := by
  intro s
  rw [exec_rts, popWord_eq_ofNat, poppedWord_eq_ofNat, BitVec.ofNat_add (wordNat _ _)]
  rfl

/-- Settles O50: the pops do not read the PC that RTS is fetched at, and after a PushWord they give
the word back and restore SP (`popWord_pushWord`, `poppedWord_pushWord`). -/
theorem rtsAfterJsrRestoresPCAndSP : Obligations.RtsAfterJsrRestoresPCAndSP := by
  intro s t w p hwf h
  rw [exec_jsr] at h
  cases h
  have hpc : (s.pushWord (s.pc - 1)).popWord + 1 = s.pc := by
    rw [popWord_pushWord hwf, BitVec.sub_add_cancel]
  calc exec .rts { s.pushWord (s.pc - 1) with pc := p }
    _ = .next { (s.pushWord (s.pc - 1)).poppedWord with
          pc := (s.pushWord (s.pc - 1)).popWord + 1 } := exec_rts _
    _ = .next { s.pushWord (s.pc - 1) with pc := s.pc, sp := s.sp } := by
      rw [hpc, poppedWord_pushWord]

end Sys2Proof.Machine
end

section
/-! PROOFS. Stack and flags (46_stack.md R180 to R184): the pushes, the pulls and RTI with SP, the slots
and the status bits as numbers, and PLP after PHP. -/

namespace Sys2Proof.Machine

/-! ### Pushes and pops as numbers -/

theorem add_one_eq_ofNat (b : Byte) : b + 1 = BitVec.ofNat 8 (b.toNat + 1) :=
  BitVec.eq_of_toNat_eq (increment_toNat b)

theorem sub_one_eq_ofNat (b : Byte) : b - 1 = BitVec.ofNat 8 (b.toNat + 255) :=
  BitVec.eq_of_toNat_eq (decrement_toNat b)

theorem add_one_add_one_add_one_eq_ofNat (b : Byte) :
    b + 1 + 1 + 1 = BitVec.ofNat 8 (b.toNat + 3) := by
  apply BitVec.eq_of_toNat_eq
  rw [add_one_add_one_eq_ofNat, increment_toNat, BitVec.toNat_ofNat, Nat.mod_add_mod,
    BitVec.toNat_ofNat]

/-- R24 over numbers. -/
theorem push_eq_ofNat (s : State) (v : Byte) :
    s.push v =
      { s.writeByte (BitVec.ofNat 16 (256 + s.sp.toNat)) v with
        sp := BitVec.ofNat 8 (s.sp.toNat + 255) } := by
  rw [← stackAddr_eq_ofNat, ← sub_one_eq_ofNat]
  rfl

/-- R25 over numbers. -/
theorem popByte_eq_ofNat (s : State) :
    s.popByte = s.readByte (BitVec.ofNat 16 (256 + (s.sp.toNat + 1) % 256)) := by
  rw [popByte_eq, stackAddr_eq_ofNat, increment_toNat]

theorem popped_eq_ofNat (s : State) :
    s.popped = { s with sp := BitVec.ofNat 8 (s.sp.toNat + 1) } := by
  rw [← add_one_eq_ofNat]
  rfl

/-- The word above a popped byte. -/
theorem popWord_popped_eq_ofNat (s : State) :
    s.popped.popWord = BitVec.ofNat 16
      (wordNat (s.readByte (BitVec.ofNat 16 (256 + (s.sp.toNat + 2) % 256)))
        (s.readByte (BitVec.ofNat 16 (256 + (s.sp.toNat + 3) % 256)))) := by
  rw [popWord_eq_ofNat, State.popped_sp, increment_toNat, Nat.mod_add_mod, Nat.mod_add_mod]
  rfl

theorem poppedWord_popped_eq_ofNat (s : State) :
    s.popped.poppedWord = { s with sp := BitVec.ofNat 8 (s.sp.toNat + 3) } := by
  rw [poppedWord_eq, State.popped_sp, add_one_add_one_add_one_eq_ofNat]
  rfl

/-- R31 over numbers. -/
theorem unpack_eq_decide (v : Byte) (f : Flags) :
    unpack v f =
      { f with
        c := decide (v.toNat % 2 = 1), z := decide (v.toNat / 2 % 2 = 1),
        i := decide (v.toNat / 4 % 2 = 1), d := decide (v.toNat / 8 % 2 = 1),
        v := decide (v.toNat / 64 % 2 = 1), n := decide (v.toNat / 128 % 2 = 1) } := by
  simp only [unpack, getLsbD_eq_div, pow_zero, Nat.div_one, Nat.reducePow]

/-! ### The stack instructions -/

theorem exec_pha (s : State) : exec .pha s = .next (s.push s.a) := rfl

theorem exec_php (s : State) : exec .php s = .next (s.push (pack s.flags)) := rfl

theorem exec_pla (s : State) :
    exec .pla s = .next ({ s.popped with a := s.popByte }.setZN s.popByte) := rfl

theorem exec_plp (s : State) :
    exec .plp s = .next { s.popped with flags := unpack s.popByte s.flags } := rfl

/-- RTI pops a word above the status byte; these pops do not read the flags just pulled. -/
theorem exec_rti (s : State) :
    exec .rti s = .next { s.popped.poppedWord with
      flags := unpack s.popByte s.flags, pc := s.popped.popWord } := rfl

/-- Settles O52: both push one byte (`push_eq_ofNat`). -/
theorem pushesStoreAtTheStackPointer : Obligations.PushesStoreAtTheStackPointer := by
  intro s
  rw [exec_pha, exec_php, push_eq_ofNat, push_eq_ofNat]
  exact ⟨rfl, rfl⟩

/-- Settles O53: both pop one byte (`popByte_eq_ofNat`, `popped_eq_ofNat`); PLA sets Z and N from it,
PLP unpacks it (`unpack_eq_decide`). -/
theorem pullsReadAboveTheStackPointer : Obligations.PullsReadAboveTheStackPointer := by
  intro s
  refine ⟨s.popByte, popByte_eq_ofNat s, ?pla, ?plp⟩
  case pla => rw [exec_pla, State.setZN_eq, popped_eq_ofNat]
  case plp => rw [exec_plp, unpack_eq_decide, popped_eq_ofNat]

/-- Settles O54: the status byte is popped and unpacked (`popByte_eq_ofNat`, `unpack_eq_decide`), then
the word above it (`popWord_popped_eq_ofNat`). -/
theorem rtiRestoresFlagsAndPC : Obligations.RtiRestoresFlagsAndPC := by
  intro s
  refine ⟨s.popByte, popByte_eq_ofNat s, ?_⟩
  rw [exec_rti, unpack_eq_decide, popWord_popped_eq_ofNat, poppedWord_popped_eq_ofNat]

/-! ### A pop after a push -/

theorem popByte_push {s : State} (h : s.mem.wf = true) (v : Byte) : (s.push v).popByte = v := by
  rw [popByte_eq, State.push_sp, BitVec.sub_add_cancel]
  exact State.readByte_writeByte_self h (stackAddr s.sp) v

theorem popped_push (s : State) (v : Byte) : (s.push v).popped = { s.push v with sp := s.sp } := by
  rw [State.popped, State.push_sp, BitVec.sub_add_cancel]
  rfl

/-- Settles O55: the pop reads neither the flags nor the PC that PLP is fetched at, and after the push
it gives the status byte back and restores SP (`popByte_push`, `popped_push`); unpacking that byte gives
the flags back (`unpack_pack`). -/
theorem plpAfterPhpRestoresEveryFlag : Obligations.PlpAfterPhpRestoresEveryFlag := by
  intro s t f p hwf h hb hu
  rw [exec_php] at h
  cases h
  calc exec .plp { s.push (pack s.flags) with flags := f, pc := p }
    _ = .next { (s.push (pack s.flags)).popped with
          flags := unpack (s.push (pack s.flags)).popByte f, pc := p } := exec_plp _
    _ = .next { s.push (pack s.flags) with flags := s.flags, sp := s.sp, pc := p } := by
      rw [popByte_push hwf, unpack_pack s.flags f hb hu, popped_push]

end Sys2Proof.Machine
end

section
/-! PROOFS. Reset and creation, the transfers, the flag instructions, BRK and NOP, the spec's words, the
faults of a step and the ends of a run (47_brk_nop.md to 49_flag_ops.md, 60_exceptions.md,
70_reset_and_hazards.md). -/

namespace Sys2Proof.Machine

/-! ### Reset and creation -/

/-- Settles O1: `resetState` is the record of R240 with the old memory. -/
theorem resetSetsEveryElementButMemory : Obligations.ResetSetsEveryElementButMemory :=
  fun _ => ⟨rfl, rfl, rfl, rfl, rfl, rfl, rfl, rfl, rfl⟩

theorem createState_mem (mem0 : Word → Byte) :
    (createState mem0).mem =
      fillMemory (fun k => mem0 (BitVec.ofNat 16 k)) Config.memorySize := by
  rw [createState]

theorem readByte_createState (mem0 : Word → Byte) (a : Word) :
    (createState mem0).readByte a = mem0 a := by
  rw [State.readByte, createState_mem, read_fillMemory _ le_rfl (toNat_lt_memorySize a),
    BitVec.ofNat_toNat, BitVec.setWidth_eq]

/-- A write of $00, the byte an unlisted address reads as, adds no cell to the empty memory. -/
theorem fillMemory_zero (n : Nat) : fillMemory (fun _ => 0) n = [] := by
  induction n with
  | zero => rfl
  | succ n ih => rw [fillMemory, ih]; rfl

/-- Settles O2: the filled memory reads as `mem0` (`readByte_createState`) and is canonical
(`fillMemory_wf`); filled with $00 it is the empty list of the reset state (`fillMemory_zero`). -/
theorem creationHoldsTheGivenMemory : Obligations.CreationHoldsTheGivenMemory := by
  intro mem0
  refine ⟨readByte_createState mem0, ⟨?wf, rfl⟩, ?fixed, ?zero⟩
  case wf => rw [createState_mem]; exact fillMemory_wf _ le_rfl
  case fixed => rw [createState, resetState]
  case zero => rw [createState, fillMemory_zero]; rfl

/-! ### Transfers, flag instructions, BRK and NOP -/

/-- Settles O57: each transfer but TXS is a register copy and `SetZN` (`State.setZN_eq`). -/
theorem transfersCopyRegisters : Obligations.TransfersCopyRegisters := by
  intro s
  refine ⟨?tax, ?txa, ?tay, ?tya, ?tsx, ?txs⟩
  case txs => rfl
  all_goals exact congrArg _ (State.setZN_eq _ _)

/-- Settles O58: each flag instruction is one `State.setFlags`. -/
theorem flagInstructionsWriteOneFlag : Obligations.FlagInstructionsWriteOneFlag :=
  fun _ => ⟨rfl, rfl, rfl, rfl, rfl, rfl, rfl⟩

/-- Settles O59: BRK is the halt event (`halt_eq`). -/
theorem brkHaltsAndNopDoesNothing : Obligations.BrkHaltsAndNopDoesNothing :=
  fun s => ⟨congrArg Host.Outcome.next (halt_eq s), rfl⟩

/-! ### The spec's words -/

theorem decode_of_encode_eq {i : Instr} {bs : List Byte} (h : encode i = bs) :
    decode bs = .ok (i, []) := by
  rw [← h, ← List.append_nil (encode i), decode_encode_append]

/-- Settles O22: each word is the encoding of its instruction. -/
theorem decodesTheSpecsWords : Obligations.DecodesTheSpecsWords := by
  refine ⟨?_, ?_, ?_, ?_, ?_, ?_, ?_, ?_, ?_, ?_, ?_, ?_⟩
  all_goals exact decode_of_encode_eq rfl

/-! ### Faults of a step -/

/-- Settles O6 by `exec_completes`. -/
theorem everyInstructionCompletes : Obligations.EveryInstructionCompletes := exec_completes

theorem fetchInstr_eq_none_iff_undefined {s : State} :
    fetchInstr s = none ↔ s.readByte s.pc ∈ undefinedOpcodes :=
  fetchInstr_eq_none.trans (lookupOpcode_eq_none_iff _)

/-- A running state's step faults exactly where the fetch finds no instruction, since every
instruction completes. -/
theorem step_fault_iff {s : State} {r : Fault} :
    step s = .fault r ↔
      s.running = true ∧ fetchInstr s = none ∧ r = .decodeError (s.readByte s.pc) s.pc := by
  constructor
  · intro h
    obtain ⟨hr, hf⟩ := step_fault_cases h
    have hs : decodeErrorAt s = .fault r := (step_of_no_fetch hr hf).symm.trans h
    exact ⟨hr, hf, (Host.Outcome.fault.inj hs).symm⟩
  · rintro ⟨hr, hf, rfl⟩
    exact step_of_no_fetch hr hf

theorem step_ne_refused (s : State) (r : Refusal) : step s ≠ .refused r := by
  intro h
  cases hr : s.running with
  | false => cases (step_halted hr).symm.trans h
  | true =>
    cases hf : fetchInstr s with
    | none => cases (step_of_no_fetch hr hf).symm.trans h
    | some i =>
      obtain ⟨t, ht⟩ := exec_completes i (advancePC i s)
      cases (ht.symm.trans (step_of_fetch hr hf).symm).trans h

/-- Settles O7: the bytes at which the fetch finds no instruction are those of R81. -/
theorem stepFaultsExactlyOnUndefinedOpcode : Obligations.StepFaultsExactlyOnUndefinedOpcode := by
  intro s
  refine ⟨fun r => ?_, step_ne_refused s⟩
  rw [step_fault_iff, fetchInstr_eq_none_iff_undefined]

/-! ### The loop of a bounded run -/

theorem runUntilHalt_of_halted {s : State} (h : s.running = false) (k : Nat) :
    runUntilHalt k s = .halted s := by
  cases k <;> simp [runUntilHalt, h]

theorem runUntilHalt_zero {s : State} (h : s.running = true) : runUntilHalt 0 s = .outOfFuel s := by
  simp [runUntilHalt, h]

theorem runUntilHalt_of_fault {s : State} {r : Fault} (h : s.running = true)
    (hs : step s = .fault r) (k : Nat) : runUntilHalt (k + 1) s = .faulted r s := by
  simp [runUntilHalt, h, hs]

theorem runUntilHalt_of_next {s t : State} (h : s.running = true) (hs : step s = .next t)
    (k : Nat) : runUntilHalt (k + 1) s = runUntilHalt k t := by
  simp [runUntilHalt, h, hs]

/-! ### The ends of a bounded run -/

/-- What holds at an end of a run: a halted end is final, at a faulted end the next step raises the
fault, and an end with the bound used up is running. -/
def RunEnd.Justified : RunEnd → Prop
  | .halted t => t.Final
  | .faulted r t => step t = .fault r
  | .refused _ _ => False
  | .outOfFuel t => t.running = true

theorem runUntilHalt_justified (k : Nat) (s : State) : (runUntilHalt k s).Justified := by
  induction k generalizing s with
  | zero =>
    cases hr : s.running with
    | false => rw [runUntilHalt_of_halted hr]; exact hr
    | true => rw [runUntilHalt_zero hr]; exact hr
  | succ k ih =>
    cases hr : s.running with
    | false => rw [runUntilHalt_of_halted hr]; exact hr
    | true =>
      cases hs : step s with
      | next t => rw [runUntilHalt_of_next hr hs]; exact ih t
      | fault r => rw [runUntilHalt_of_fault hr hs]; exact hs
      | refused r => exact absurd hs (step_ne_refused s r)

/-- One more unit of the bound changes no end but one with the bound used up. -/
theorem runUntilHalt_succ {k : Nat} {s : State} (h : ∀ t, runUntilHalt k s ≠ .outOfFuel t) :
    runUntilHalt (k + 1) s = runUntilHalt k s := by
  induction k generalizing s with
  | zero =>
    cases hr : s.running with
    | false => rw [runUntilHalt_of_halted hr, runUntilHalt_of_halted hr]
    | true => exact absurd (runUntilHalt_zero hr) (h s)
  | succ k ih =>
    cases hr : s.running with
    | false => rw [runUntilHalt_of_halted hr, runUntilHalt_of_halted hr]
    | true =>
      cases hs : step s with
      | next t =>
        rw [runUntilHalt_of_next hr hs] at h ⊢
        rw [runUntilHalt_of_next hr hs, ih h]
      | fault r => rw [runUntilHalt_of_fault hr hs, runUntilHalt_of_fault hr hs]
      | refused r => exact absurd hs (step_ne_refused s r)

/-- Settles O15: the loop's equation in each case of its start, the fact that holds at each kind of end
(`runUntilHalt_justified`), and that a larger bound keeps the end (`runUntilHalt_succ`). -/
theorem runUntilHaltStopsAtHaltOrDecodeError :
    Obligations.RunUntilHaltStopsAtHaltOrDecodeError := by
  intro k s
  have hend := runUntilHalt_justified k s
  refine ⟨fun hr => runUntilHalt_of_halted hr k, runUntilHalt_zero,
    fun r hr hs => runUntilHalt_of_fault hr hs k, fun t hr hs => runUntilHalt_of_next hr hs k,
    fun t h => ?halted, fun r t h => ?faulted, fun t h => ?outOfFuel, fun r t h => ?refused⟩
  case halted =>
    rw [h] at hend
    exact ⟨hend, (runUntilHalt_succ (by simp [h])).trans h⟩
  case faulted =>
    rw [h] at hend
    exact ⟨hend, (runUntilHalt_succ (by simp [h])).trans h⟩
  case outOfFuel => rwa [h] at hend
  case refused => rwa [h] at hend

end Sys2Proof.Machine
end
